-- ==== Sys2Proof/Word.lean ====
section
/-! DEFINITION. The word types of the block (00_scope.md R9, R10): bit 0 is the least significant bit, every
value is unsigned. Time values are 32 bits wide, samples, history entries and command words 8 bits. -/

namespace Sys2Proof

/-- An 8-bit value: a command word `CMD[7:0]` (R65), a raw sample (R9), a history entry (R35), `DSR` (R38). -/
abbrev Byte := BitVec 8

/-- A 32-bit value: a port `A`, `B` or `NOW` (R67), half of a countdown (R13), `RESULT` (R22). -/
abbrev Word := BitVec 32

end Sys2Proof
end

