-- ==== Sys2Proof/Config.lean ====
section
/-! DEFINITION. What is fixed for the life of a block: the parameters of 00_scope.md R7 with their defaults, and
the values the spec leaves open (no body: nothing can be proved about which value they have). The parameters are
an argument of the whole model: `Machine.State` carries them in its field `cfg`, which no step changes. -/

namespace Sys2Proof

/-- The parameters of R7. Durations are microseconds. They are unbounded naturals here; R8's constraints are the
checks of `WellFormed.lean`, and a block whose parameters break one is refused by `Machine.step`. -/
structure Params where
  /-- `DELAY_TIME`: delay from a detection to timed activation. -/
  delayTime : Nat
  /-- `RUN_TIME`: fan run time armed by Activate. -/
  runTime : Nat
  /-- `HEARTBEAT_BLINK_TIME`: OFF period while idle with no countdown. -/
  heartbeatBlinkTime : Nat
  /-- `WAITING_BLINK_TIME`: OFF period while a delay countdown is active. -/
  waitingBlinkTime : Nat
  /-- `BLINK_ON_TIME`: fixed ON pulse. -/
  blinkOnTime : Nat
  /-- `BLOCK_DETECTION_DELAY`: re-trigger block after Detected, and the manual-reset wait. -/
  blockDetectionDelay : Nat
  /-- `MOTION_BLOCK_MULT`: multiplier giving the post-deactivation block. -/
  motionBlockMult : Nat
  /-- `DETECTION_INTER_DELAY`: spacing of debounce pushes. -/
  detectionInterDelay : Nat
  /-- `ACT_DEBOUNCE`: blocking wait at the end of Activate. -/
  actDebounce : Nat
  /-- `IIR_NUM`: numerator of the coefficient k. -/
  iirNum : Nat
  /-- `IIR_DEN`: denominator of the coefficient k. -/
  iirDen : Nat
  /-- `THRESH_MULT`: spike threshold multiplier. -/
  threshMult : Nat
  /-- `MIN_THRESHOLD`: floor of the threshold base, raw ADC units. -/
  minThreshold : Nat
  /-- `FILTER_LENGTH` (N): history length in samples. -/
  filterLength : Nat
  /-- `DEBOUNCE_WIDTH` (W): debounce register width; R8 fixes it at 8. -/
  debounceWidth : Nat
  deriving DecidableEq, Repr

/-- The default column of R7: the source's literals, the configuration of the default block. -/
def Params.default : Params where
  delayTime := 300000000
  runTime := 480000000
  heartbeatBlinkTime := 5000000
  waitingBlinkTime := 100000
  blinkOnTime := 100000
  blockDetectionDelay := 3000000
  motionBlockMult := 5
  detectionInterDelay := 100000
  actDebounce := 350000
  iirNum := 2
  iirDen := 5
  threshMult := 4
  minThreshold := 20
  filterLength := 10
  debounceWidth := 8

/-- `MOTION_BLOCK_MULT * BLOCK_DETECTION_DELAY` (R7, R131): 15 s at the defaults (R19). -/
def Params.motionBlockTime (c : Params) : Nat := c.motionBlockMult * c.blockDetectionDelay

/-- The width of `HIDX`, ceil(log2 N) bits (R36): 4 at N = 10. -/
def Params.hidxWidth (c : Params) : Nat :=
  if c.filterLength ≤ 1 then 0 else Nat.log2 (c.filterLength - 1) + 1

/-- The two orders in which a host link may carry the bytes of a 32-bit port value (20_memory.md R53). -/
inductive ByteOrder where
  | leastSignificantFirst
  | mostSignificantFirst
  deriving DecidableEq, Repr, Inhabited

/-- `HOST_LINK_BYTE_ORDER` (R53, D24, I5): OPEN in the spec, so it has no body here, and no rule of the block reads
it (DESIGN CHOICE, log entry 4). -/
opaque Config.hostLinkByteOrder : ByteOrder

/-- What the registers hold between power-on and the first reset (R49, R161, I1: "draws every register"): 32 bits for
the `k`-th power-on and register slot `slot`. A free value (DESIGN CHOICE, log entry 6). -/
opaque Config.powerUpBits (k slot : Nat) : Word

end Sys2Proof
end

