-- ==== Sys2Proof/Syntax.lean ====
section
/-! DEFINITION. The commands of the block: one constructor per row of spec/opcode_table.json. No command carries an
operand in its word (30_encoding.md R67, R74): the operands are the values on the input ports, held in
`Machine.State`, so no constructor has an argument. -/

namespace Sys2Proof

/-- The nine commands of the opcode map (30_encoding.md R68), in its order. -/
inductive Instr where
  /-- NOP, word 0x00 (44_housekeeping.md R140). -/
  | nop
  /-- WSUB, word 0x01 (40_timer_arith.md R85): wrap-safe subtract. -/
  | wsub
  /-- TDEC, word 0x02 (40_timer_arith.md R86): countdown decrement. -/
  | tdec
  /-- QSAMPLE, word 0x03 (41_signal_qualifier.md R99): one qualifier sample. -/
  | qsample
  /-- DPUSH, word 0x04 (41_signal_qualifier.md R100): push a given bit. -/
  | dpush
  /-- DPUSHD, word 0x05 (41_signal_qualifier.md R101): push the detection flag. -/
  | dpushd
  /-- BLINK, word 0x06 (42_blink.md R109): one blink step. -/
  | blink
  /-- TICK, word 0x07 (43_control_fsm.md R113): one controller tick. -/
  | tick
  /-- CLR, word 0x08 (44_housekeeping.md R141): reset of the whole block. -/
  | clr
  deriving DecidableEq, Repr

end Sys2Proof
end

