-- ==== Sys2Proof/WellFormed.lean ====
section
/-! DEFINITION. Well-formedness: the constraints of 00_scope.md R8 on a configuration, one check each, and that of an
instruction (every one: a command has no operand field that could be ill-formed, 30_encoding.md R74). -/

namespace Sys2Proof

/-- A duration fits a 32-bit countdown (R8: less than 2^32). -/
def Params.fits (d : Nat) : Bool := decide (d < 2 ^ 32)

/-- Every duration parameter is less than 2^32 (R8). -/
def Params.durationsFit (c : Params) : Bool :=
  Params.fits c.delayTime && Params.fits c.runTime && Params.fits c.heartbeatBlinkTime &&
  Params.fits c.waitingBlinkTime && Params.fits c.blinkOnTime && Params.fits c.blockDetectionDelay &&
  Params.fits c.detectionInterDelay && Params.fits c.actDebounce

/-- The product `MOTION_BLOCK_MULT * BLOCK_DETECTION_DELAY` is less than 2^32 (R8). -/
def Params.motionBlockFits (c : Params) : Bool := Params.fits c.motionBlockTime

/-- `FILTER_LENGTH >= 1` (R8). -/
def Params.historyNonempty (c : Params) : Bool := decide (1 ≤ c.filterLength)

/-- `0 <= IIR_NUM <= IIR_DEN` and `IIR_DEN >= 1` (R8). -/
def Params.coefficientIsRatio (c : Params) : Bool := decide (c.iirNum ≤ c.iirDen) && decide (1 ≤ c.iirDen)

/-- `DEBOUNCE_WIDTH = 8` (R8). -/
def Params.debounceIsByte (c : Params) : Bool := decide (c.debounceWidth = 8)

/-- R8: what a configuration must satisfy for the rules to hold as written. -/
def Params.valid (c : Params) : Bool :=
  c.durationsFit && c.motionBlockFits && c.historyNonempty && c.coefficientIsRatio && c.debounceIsByte

/-- Every command is well formed: there is no operand field in a command word (R66, R74). -/
def Instr.wellFormed : Instr → Bool
  | .nop => true
  | .wsub => true
  | .tdec => true
  | .qsample => true
  | .dpush => true
  | .dpushd => true
  | .blink => true
  | .tick => true
  | .clr => true

end Sys2Proof
end

