-- ==== Sys2Proof/Decode.lean ====
section
/-! DEFINITION. The decoder of 30_encoding.md R69, total on all 256 words and rejecting by name, the encoder written
from the opcode map R68, and the host's view of a row of spec/opcode_table.json. -/

namespace Sys2Proof

/-- Why a word is illegal (R69). Both raise `IllegalCommand` (44_housekeeping.md R144). -/
inductive DecodeError where
  /-- Bits 7:4 are not 0000 (R71), whatever `op` is. -/
  | reservedBits
  /-- Bits 7:4 are 0000 and `op` is 0x9 to 0xF (R70). -/
  | reservedOpcode
  deriving DecidableEq, Repr

/-- Field `rsv`, bits 7:4 (R66). -/
def fieldRsv (w : Byte) : BitVec 4 := w.extractLsb' 4 4

/-- Field `op`, bits 3:0 (R66). -/
def fieldOp (w : Byte) : BitVec 4 := w.extractLsb' 0 4

/-- The opcode map R68: 0x0 to 0x8 select a command, 0x9 to 0xF are reserved (R70). -/
def decodeOp (op : BitVec 4) : Except DecodeError Instr :=
  match op.toNat with
  | 0 => .ok .nop
  | 1 => .ok .wsub
  | 2 => .ok .tdec
  | 3 => .ok .qsample
  | 4 => .ok .dpush
  | 5 => .ok .dpushd
  | 6 => .ok .blink
  | 7 => .ok .tick
  | 8 => .ok .clr
  | _ => .error .reservedOpcode

/-- The decode procedure of R69: the reserved bits are tested first. -/
def decode (w : Byte) : Except DecodeError Instr :=
  if fieldRsv w = 0#4 then decodeOp (fieldOp w) else .error .reservedBits

/-- The `op` column of R68. -/
def Instr.opcode : Instr → BitVec 4
  | .nop => 0x0#4
  | .wsub => 0x1#4
  | .tdec => 0x2#4
  | .qsample => 0x3#4
  | .dpush => 0x4#4
  | .dpushd => 0x5#4
  | .blink => 0x6#4
  | .tick => 0x7#4
  | .clr => 0x8#4

/-- The word `CMD[7:0]` of a command: format C, `rsv` = 0000 above `op` (R66). -/
def encode (i : Instr) : Byte := 0#4 ++ i.opcode

/-- The word a table row stands for: its `nbits` bits, with every bit above them 0. -/
def tableWord (nbits w : Nat) : Byte := BitVec.ofNat 8 (w % 2 ^ nbits)

/-- The command the decoder reads from a row of spec/opcode_table.json. Every word is one byte (R65, R73), so a row of
more than 8 bits is no command. -/
def decodeTableWord (nbits w : Nat) : Option Instr :=
  if nbits ≤ 8 then (decode (tableWord nbits w)).toOption else none

end Sys2Proof
end

