-- ==== Sys2Proof/Machine/State.lean ====
section
/-! DEFINITION. The state of the machine, as plain data: the registers of 10_state.md (`Regs`), and beside them what
the model needs to be a machine of one step (the parameters R7, the input ports R67, what the host presents next R65,
whether a reset has been applied R49). The reset state R47 and the reasons a step can stop. -/

namespace Sys2Proof.Machine

/-- The four FSM states (R23); `FsmState.code` is the 2-bit encoding. -/
inductive FsmState where
  | idle
  | detected
  | activate
  | reset
  deriving DecidableEq, Repr

/-- The 2-bit value of `STATE` and `NEXT` (R23, R24). -/
def FsmState.code : FsmState → BitVec 2
  | .idle => 0#2
  | .detected => 1#2
  | .activate => 2#2
  | .reset => 3#2

/-- A countdown, the pair of 32-bit registers `X`, `X_REF` (00_scope.md R13). -/
structure Countdown where
  /-- `X`: remaining time in microseconds. -/
  rem : Word
  /-- `X_REF`: reference timestamp. -/
  ref : Word
  deriving DecidableEq, Repr

/-- A countdown after reset: 0 and 0 (R47). -/
def Countdown.zero : Countdown := ⟨0#32, 0#32⟩

/-- The values on the five input ports (30_encoding.md R67). -/
structure Ports where
  /-- `A`, 32 bits. -/
  a : Word
  /-- `B`, 32 bits. -/
  b : Word
  /-- `NOW`, 32 bits: the microsecond time. -/
  now : Word
  /-- `S`, 8 bits: raw analog sample. -/
  s : Byte
  /-- `M`, 1 bit: the button, true = pressed. -/
  m : Bool
  deriving DecidableEq, Repr

/-- Every port at 0 (R77: "a port the line omits is 0"). -/
def Ports.zero : Ports := ⟨0#32, 0#32, 0#32, 0#8, false⟩

/-- What the host can do to the block between commands. -/
inductive HostEvent where
  /-- Present a command word together with the port values (R65, R67). -/
  | command (word : Byte) (ports : Ports)
  /-- Assert the `RST` input between commands (70_reset_and_hazards.md R161). -/
  | rst
  /-- Lose power and power on again (R49, R156, R161): all state is lost and undefined until a reset. -/
  | powerOn
  deriving DecidableEq, Repr

/-- The registers of 10_state.md. `QUAL` and `BUSY` are functions of them, not storage (R39, R34). -/
structure Regs where
  /-- `STATE` (R23). -/
  state : FsmState
  /-- `NEXT` (R24). -/
  next : FsmState
  /-- `FAN` (R25). -/
  fan : Bool
  /-- `RELAY` (R26). -/
  relay : Bool
  /-- `LED` (R27). -/
  led : Bool
  /-- `TREM`, `TREM_REF` (R28). -/
  trem : Countdown
  /-- `FREM`, `FREM_REF` (R29). -/
  frem : Countdown
  /-- `SDET`, `SDET_REF` (R30). -/
  sdet : Countdown
  /-- `BMI`, `BMI_REF` (R31). -/
  bmi : Countdown
  /-- `IDLY`, `IDLY_REF` (R32). -/
  idly : Countdown
  /-- `BLK`, `BLK_REF` (R33). -/
  blk : Countdown
  /-- `WAIT`, `WAIT_REF` (R34). -/
  wait : Countdown
  /-- `HIST[0..N-1]` (R35), entry 0 first. -/
  hist : List Byte
  /-- `HIDX` (R36), an index. -/
  hidx : Nat
  /-- `DET` (R37). -/
  det : Bool
  /-- `DSR` (R38), bit 0 the latest push. -/
  dsr : Byte
  /-- `RSTMAN` (R40). -/
  rstman : Bool
  /-- `ERR` (R41). -/
  err : Bool
  /-- `EVT` (R43): bit 0 Detected, bit 1 Activate, bit 2 Reset. -/
  evt : BitVec 3
  /-- `RESULT` (R22). -/
  result : Word
  deriving DecidableEq, Repr

/-- The reset value of every register (R47, R160), for a history of `n` entries. -/
def Regs.reset (n : Nat) : Regs where
  state := .idle
  next := .idle
  fan := false
  relay := false
  led := false
  trem := .zero
  frem := .zero
  sdet := .zero
  bmi := .zero
  idly := .zero
  blk := .zero
  wait := .zero
  hist := List.replicate n 0#8
  hidx := 0
  det := false
  dsr := 0#8
  rstman := false
  err := false
  evt := 0#3
  result := 0#32

/-- The state of the machine. Only `regs` is the spec's own state; the other fields are the model's (DESIGN
CHOICE, log entries 1, 2, 3, 6; INVENTORY.md). -/
structure State where
  /-- The registers of 10_state.md. -/
  regs : Regs
  /-- The parameters of R7, fixed for the life of the block (R42): no step changes them. -/
  cfg : Params
  /-- The values standing on the input ports: those of the latest command presented (R67). -/
  ports : Ports
  /-- What the host presents next, oldest first; each step takes one (R59, R65). -/
  pending : List HostEvent
  /-- A reset has been applied since power-on (R49, R163). -/
  live : Bool
  /-- How many times the block has been powered on: the index of the free values of R49. -/
  powerUps : Nat
  deriving DecidableEq, Repr

/-- The state right after reset (R47, R160): the default block, its ports at 0, nothing presented yet. -/
def State.reset : State where
  regs := Regs.reset Params.default.filterLength
  cfg := Params.default
  ports := Ports.zero
  pending := []
  live := true
  powerUps := 0

/-- The reasons a step stops the machine. -/
inductive Fault where
  /-- Raised by acceptance of a command (`Machine.acceptCommand`) when a word other than CLR is presented after
  power-on and before the first reset, where the block "accepts no command" (R49) and the model is `stuck` (I1).
  Safe: the machine stops. -/
  | notReset
  deriving DecidableEq, Repr

/-- The reasons a step is given no meaning. -/
inductive Refusal where
  /-- Raised by `Machine.exec` for an instruction without a meaning in the model: no arm does. Safe. -/
  | notModelled (mnemonic : String)
  /-- Raised by `Machine.step` on a configuration that breaks a constraint of R8: "refused by the model" (R8, I4).
  Safe. -/
  | badConfiguration
  deriving DecidableEq, Repr

end Sys2Proof.Machine
end

