-- ==== Sys2Proof/Machine/Flags.lean ====
section
/-! DEFINITION. The status flags that are computed (10_state.md R45) and the outputs the host can read (R44). Reading
an output has no side effect (20_memory.md R56): each is a function of the registers. -/

namespace Sys2Proof.Machine

/-- A countdown is active when X != 0 and expired when X = 0 (00_scope.md R13). -/
def Countdown.active (c : Countdown) : Bool := c.rem != 0#32

/-- `BUSY`: `WAIT != 0` (R34). -/
def Regs.busy (r : Regs) : Bool := r.wait.active

/-- `QUAL`, qualified motion: unanimity over the 8 bits of `DSR` (R39, 41_signal_qualifier.md R96). -/
def Regs.qual (r : Regs) : Bool := r.dsr == 0xFF#8

/-- Step 5 of the qualifier (R94): a strict unsigned comparison of exact integers, never truncated. -/
def detects (c : Params) (sp avg : Byte) : Bool :=
  decide (c.threshMult * max c.minThreshold avg.toNat < sp.toNat)

/-- The cause code `ERR` records (60_exceptions.md R145): 1 for `IllegalCommand`, 0 for none. -/
def Regs.causeCode (r : Regs) : BitVec 1 := BitVec.ofBool r.err

/-- The outputs the host can read between commands (R44). -/
structure Outputs where
  relay : Bool
  led : Bool
  state : BitVec 2
  next : BitVec 2
  fan : Bool
  qual : Bool
  det : Bool
  busy : Bool
  err : Bool
  evt : BitVec 3
  result : Word
  deriving DecidableEq, Repr

/-- What the output ports show (R44): a pure reading of the registers. -/
def Regs.outputs (r : Regs) : Outputs where
  relay := r.relay
  led := r.led
  state := r.state.code
  next := r.next.code
  fan := r.fan
  qual := r.qual
  det := r.det
  busy := r.busy
  err := r.err
  evt := r.evt
  result := r.result

end Sys2Proof.Machine
end

