-- ==== Sys2Proof/Machine/Operands.lean ====
section
/-! DEFINITION. The operand forms: a command's operands are the values on the input ports (30_encoding.md R67, R74),
read at full width with no extension, scaling or shift, except that DPUSH reads `A[0]` only. -/

namespace Sys2Proof.Machine

/-- Port `A`: `remaining` for TDEC, `periodMicros` for BLINK (R67). -/
def State.opA (s : State) : Word := s.ports.a

/-- Port `B`: `lastSampleTime` for WSUB and TDEC (R67). -/
def State.opB (s : State) : Word := s.ports.b

/-- Port `NOW`: the time of this command, the only time the block reads (R67, R148). -/
def State.opNow (s : State) : Word := s.ports.now

/-- Port `S`: the raw sample of QSAMPLE and TICK (R67, R74). -/
def State.opS (s : State) : Byte := s.ports.s

/-- Port `M`: the button of TICK, true = pressed (R67, R134). -/
def State.opM (s : State) : Bool := s.ports.m

/-- `A[0]`, the bit DPUSH pushes; `A[31:1]` is ignored (R74, R100). -/
def State.opA0 (s : State) : Bool := s.ports.a.getLsbD 0

/-- The five ports, as a form a command may read. -/
inductive Port where
  | a
  | b
  | now
  | s
  | m
  deriving DecidableEq, Repr

/-- The value on a port, as an unsigned integer (R74). -/
def Ports.value (p : Ports) : Port → Nat
  | .a => p.a.toNat
  | .b => p.b.toNat
  | .now => p.now.toNat
  | .s => p.s.toNat
  | .m => p.m.toNat

/-- The "ports read" column of R68; a port not listed is ignored by the command (R75). -/
def portsRead : Instr → List Port
  | .nop => []
  | .wsub => [.b, .now]
  | .tdec => [.a, .b, .now]
  | .qsample => [.s]
  | .dpush => [.a]
  | .dpushd => []
  | .blink => [.a, .now]
  | .tick => [.now, .s, .m]
  | .clr => []

end Sys2Proof.Machine
end

