-- ==== Sys2Proof/Machine/Ops.lean ====
section
/-! DEFINITION. The shared operations: the two timer primitives (40_timer_arith.md R80, R81), the countdown operations
(00_scope.md R13), the history store (41_signal_qualifier.md R91 to R93), the debounce push (R95), the reset of all
registers (R141, R161), power-on (R49), and raising the one exception, `IllegalCommand` (44_housekeeping.md R144). -/

namespace Sys2Proof.Machine

/-- `wsub32(now, last) = (now - last) mod 2^32` (R80). -/
def wsub32 (now last : Word) : Word := now - last

/-- `dec32(rem, last, now)` (R81): the strict unsigned comparison decides between the difference and 0. -/
def dec32 (rem last now : Word) : Word :=
  let elapsed := wsub32 now last
  if elapsed.toNat < rem.toNat then rem - elapsed else 0#32

/-- A duration parameter as the 32-bit value a countdown is armed with (R8: it is less than 2^32). -/
def duration (d : Nat) : Word := BitVec.ofNat 32 d

/-- Advance a countdown at time `now` (R13): `X <- dec32(X, X_REF, now); X_REF <- now`. -/
def Countdown.advance (c : Countdown) (now : Word) : Countdown := ⟨dec32 c.rem c.ref now, now⟩

/-- Arm a countdown with duration d (R13): `X <- d`, the reference left as it stands. -/
def Countdown.arm (c : Countdown) (d : Word) : Countdown := ⟨d, c.ref⟩

/-- Clear a countdown: `X <- 0`, the reference left as it stands (R129, R131). -/
def Countdown.clear (c : Countdown) : Countdown := ⟨0#32, c.ref⟩

/-- The exact sum of all entries of the history (R90 step 2, U6). -/
def histSum (h : List Byte) : Nat := (h.map BitVec.toNat).sum

/-- Step 2, rolling average over all N entries (R91): `floor(sum / N)`, narrowed to the 8 bits it fits. -/
def rollingAverage (c : Params) (h : List Byte) : Byte := BitVec.ofNat 8 (histSum h / c.filterLength)

/-- Step 3, IIR blend (R92): the exact quotient, narrowed to the 8 bits it fits. -/
def iirBlend (c : Params) (avg s : Byte) : Byte :=
  BitVec.ofNat 8 ((avg.toNat * c.iirNum + s.toNat * (c.iirDen - c.iirNum)) / c.iirDen)

/-- Step 4, the circular index after a store (20_memory.md R52). -/
def nextIndex (c : Params) (i : Nat) : Nat := (i + 1) % c.filterLength

/-- What `QualSample` computes beside its writes: `(sp, avg)` (R90). -/
structure Sample where
  sp : Byte
  avg : Byte
  deriving DecidableEq, Repr

/-- Steps 1 to 3 of `QualSample(s)` (R90): the average is over the history before the store. -/
def takeSample (c : Params) (s : Byte) (r : Regs) : Sample :=
  let avg := rollingAverage c r.hist
  ⟨iirBlend c avg s, avg⟩

/-- Steps 4 and 5 of `QualSample(s)` (R90, R93, R94): store `sp` at `HIDX`, advance `HIDX`, write `DET`. -/
def storeSample (c : Params) (x : Sample) (r : Regs) : Regs :=
  { r with hist := r.hist.set r.hidx x.sp, hidx := nextIndex c r.hidx, det := detects c x.sp x.avg }

/-- `QualSample(s)` (R90): what it does to the registers. -/
def qualSample (c : Params) (s : Byte) (r : Regs) : Regs := storeSample c (takeSample c s r) r

/-- The value of `DSR` after a push of `b` (R95): `((DSR << 1) | b) mod 2^8`. -/
def pushBit (dsr : Byte) (b : Bool) : Byte := (dsr <<< 1) ||| (BitVec.ofBool b).setWidth 8

/-- `DPush(b)` (R95). -/
def dPush (b : Bool) (r : Regs) : Regs := { r with dsr := pushBit r.dsr b }

/-- `RESULT <- v`, all 32 bits (30_encoding.md R76). -/
def Regs.setResult (r : Regs) (v : Word) : Regs := { r with result := v }

/-- The state with its registers changed and nothing else. -/
def State.withRegs (s : State) (r : Regs) : State := { s with regs := r }

/-- The assignment CLR and the `RST` input perform (R141, R161): every register takes its reset value (R47). The block
is then past its first reset (R49). -/
def resetBlock (s : State) : State := { s with regs := Regs.reset s.cfg.filterLength, live := true }

/-- The 2-bit FSM register that a free value leaves. -/
def FsmState.ofCode (v : BitVec 2) : FsmState :=
  match v.toNat with
  | 0 => .idle
  | 1 => .detected
  | 2 => .activate
  | _ => .reset

/-- A countdown whose two halves are free values. -/
def Countdown.ofBits (rem ref : Word) : Countdown := ⟨rem, ref⟩

/-- The registers between the `k`-th power-on and the first reset (R49, I1): every one a free value of its width. -/
def Regs.undefinedAt (c : Params) (k : Nat) : Regs :=
  let bits := Config.powerUpBits k
  { state := .ofCode ((bits 0).setWidth 2)
    next := .ofCode ((bits 1).setWidth 2)
    fan := (bits 2).getLsbD 0
    relay := (bits 3).getLsbD 0
    led := (bits 4).getLsbD 0
    trem := .ofBits (bits 5) (bits 6)
    frem := .ofBits (bits 7) (bits 8)
    sdet := .ofBits (bits 9) (bits 10)
    bmi := .ofBits (bits 11) (bits 12)
    idly := .ofBits (bits 13) (bits 14)
    blk := .ofBits (bits 15) (bits 16)
    wait := .ofBits (bits 17) (bits 18)
    hidx := (bits 19).toNat % 2 ^ c.hidxWidth
    det := (bits 20).getLsbD 0
    dsr := (bits 21).setWidth 8
    rstman := (bits 22).getLsbD 0
    err := (bits 23).getLsbD 0
    evt := (bits 24).setWidth 3
    result := bits 25
    hist := (List.range c.filterLength).map fun i => (bits (26 + i)).setWidth 8 }

/-- Power is lost and comes back (R156, R161): every register is undefined and no reset has been applied. -/
def powerOnBlock (s : State) : State :=
  { s with regs := Regs.undefinedAt s.cfg s.powerUps, live := false, powerUps := s.powerUps + 1 }

/-- `raise IllegalCommand(w)` (R144, R149): `ERR <- 1` and nothing else changes, whatever the word and the ports; no
state is saved and no control is transferred. There is no return from it (R150): the next command runs as usual. -/
def raiseIllegalCommand (_w : Byte) (s : State) : State := s.withRegs { s.regs with err := true }

end Sys2Proof.Machine
end

