-- ==== Sys2Proof/Machine/Blink.lean ====
section
/-! DEFINITION. The Blink Indicator, 42_blink.md: the primitive `BlinkTick` and the command BLINK. -/

namespace Sys2Proof.Machine

/-- `BlinkTick(period, now)` (R105): advance `BLK`; when the phase is over, toggle from the current `LED` (R106): ON
for `BLINK_ON_TIME` whatever the period, OFF for the period. -/
def blinkTick (c : Params) (period now : Word) (r : Regs) : Regs :=
  let blk := r.blk.advance now
  if blk.active then { r with blk := blk }
  else if r.led then { r with led := false, blk := blk.arm period }
  else { r with led := true, blk := blk.arm (duration c.blinkOnTime) }

/-- BLINK (R109): `BlinkTick(A, NOW)`, then `RESULT <- BLK`. It looks at neither `FAN` nor `TREM`. -/
def execBlink (s : State) : Host.Outcome State Fault Refusal :=
  let r := blinkTick s.cfg s.opA s.opNow s.regs
  .next (s.withRegs (r.setResult r.blk.rem))

end Sys2Proof.Machine
end

