-- ==== Sys2Proof/Machine/Fsm.lean ====
section
/-! DEFINITION. The control state machine, 43_control_fsm.md: the phases and handlers of a tick and the command TICK.
The phases run in the order W, C, Q, T, B, H (R114); every phase of one tick uses the same `NOW` (R117). -/

namespace Sys2Proof.Machine

/-- Phase W (R115): the `WAIT` countdown advances. -/
def phaseWait (now : Word) (r : Regs) : Regs := { r with wait := r.wait.advance now }

/-- Phase C, commit (R116): `EVT <- 000; STATE <- NEXT`. -/
def phaseCommit (r : Regs) : Regs := { r with evt := 0#3, state := r.next }

/-- The paced push of phase Q (R118): `IDLY` advances, and when it is 0 the current `DET` is pushed and `IDLY` armed. -/
def pacedPush (c : Params) (now : Word) (r : Regs) : Regs :=
  let idly := r.idly.advance now
  if idly.active then { r with idly := idly }
  else dPush r.det { r with idly := idly.arm (duration c.detectionInterDelay) }

/-- Phase Q, the qualifier (R118): one `QualSample(S)`, then the paced push. -/
def phaseQualifier (c : Params) (now : Word) (sample : Byte) (r : Regs) : Regs :=
  pacedPush c now (qualSample c sample r)

/-- The delay-expiry event `expired` of phase T (R119): `TREM` nonzero before its advance and 0 after it. -/
def delayExpires (now : Word) (r : Regs) : Bool := r.trem.active && !(r.trem.advance now).active

/-- Phase T, the FSM countdowns (R119): `TREM`, `FREM`, `SDET` and `BMI` advance. -/
def phaseTimers (now : Word) (r : Regs) : Regs :=
  { r with
    trem := r.trem.advance now
    frem := r.frem.advance now
    sdet := r.sdet.advance now
    bmi := r.bmi.advance now }

/-- The OFF period the FSM selects for the blink (42_blink.md R107). -/
def blinkPeriod (c : Params) (r : Regs) : Word :=
  if r.trem.active then duration c.waitingBlinkTime else duration c.heartbeatBlinkTime

/-- Phase B, the blink (R120): no blink while the fan runs. -/
def phaseBlink (c : Params) (now : Word) (r : Regs) : Regs :=
  if r.fan then r else blinkTick c (blinkPeriod c r) now r

/-- Guard Idle to Detected (R122). -/
def detectedGuard (qual : Bool) (r : Regs) : Bool := qual && !r.sdet.active && !r.bmi.active

/-- Guard Idle to Reset (R123). -/
def resetGuard (m : Bool) (r : Regs) : Bool := r.fan && (m || !r.frem.active)

/-- Guard Idle to Activate (R124). -/
def activateGuard (expired m : Bool) (r : Regs) : Bool := (m && !r.fan) || expired

/-- The Idle handler (R121 to R125): the three guards as one chain, in this order. -/
def idleHandler (qual expired m : Bool) (r : Regs) : Regs :=
  if detectedGuard qual r then { r with next := .detected }
  else if resetGuard m r then { r with next := .reset, rstman := m }
  else if activateGuard expired m r then { r with next := .activate }
  else { r with next := .idle }

/-- The Activate handler (R129, R130). -/
def activateHandler (c : Params) (now : Word) (r : Regs) : Regs :=
  { r with
    evt := r.evt ||| 0b010#3
    fan := true
    frem := r.frem.arm (duration c.runTime)
    relay := true
    led := true
    trem := r.trem.clear
    wait := ⟨duration c.actDebounce, now⟩
    next := .idle }

/-- The common part of the Detected handler (R126): `EVT[0] <- 1; SDET <- BLOCK_DETECTION_DELAY`. -/
def detectedCommon (c : Params) (r : Regs) : Regs :=
  { r with evt := r.evt ||| 0b001#3, sdet := r.sdet.arm (duration c.blockDetectionDelay) }

/-- The Detected handler (R126 to R128): with the fan running the Activate handler is chained in the same tick. -/
def detectedHandler (c : Params) (now : Word) (r : Regs) : Regs :=
  let r := detectedCommon c r
  if r.fan then activateHandler c now r
  else { r with trem := r.trem.arm (duration c.delayTime), next := .idle }

/-- The wait of the Reset handler (R132): armed when the reset was manual; `RSTMAN` is then cleared. -/
def resetWait (c : Params) (now : Word) (r : Regs) : Regs :=
  { r with
    wait := if r.rstman then ⟨duration c.blockDetectionDelay, now⟩ else r.wait
    rstman := false }

/-- The Reset handler (R131, R132). -/
def resetHandler (c : Params) (now : Word) (r : Regs) : Regs :=
  resetWait c now
    { r with
      evt := r.evt ||| 0b100#3
      fan := false
      frem := r.frem.clear
      trem := r.trem.clear
      relay := false
      led := false
      bmi := r.bmi.arm (duration c.motionBlockTime)
      next := .idle }

/-- Phase H (R121): the handler of the committed state and nothing else. -/
def phaseHandler (c : Params) (now : Word) (qual expired m : Bool) (r : Regs) : Regs :=
  match r.state with
  | .idle => idleHandler qual expired m r
  | .detected => detectedHandler c now r
  | .activate => activateHandler c now r
  | .reset => resetHandler c now r

/-- Phases C, Q, T, B and H, in this order (R113, R114). -/
def tickPhases (c : Params) (p : Ports) (r : Regs) : Regs :=
  let sampled := phaseQualifier c p.now p.s (phaseCommit r)
  let timed := phaseTimers p.now sampled
  let blinked := phaseBlink c p.now timed
  phaseHandler c p.now sampled.qual (delayExpires p.now sampled) p.m blinked

/-- One tick (R113): while busy only `WAIT` advances, and a tick on which the wait ends runs every phase (R115). -/
def tickRegs (c : Params) (p : Ports) (r : Regs) : Regs :=
  if r.busy then
    let waited := phaseWait p.now r
    if waited.busy then waited else tickPhases c p waited
  else tickPhases c p r

/-- TICK (R113): one execution of the controller tick; `RESULT` is not written. -/
def execTick (s : State) : Host.Outcome State Fault Refusal :=
  .next (s.withRegs (tickRegs s.cfg s.ports s.regs))

end Sys2Proof.Machine
end

