-- ==== Sys2Proof/Machine/Housekeeping.lean ====
section
/-! DEFINITION. The housekeeping commands of 44_housekeeping.md: NOP and CLR. -/

namespace Sys2Proof.Machine

/-- NOP (R140): nothing; in particular `WAIT` does not advance. -/
def execNop (s : State) : Host.Outcome State Fault Refusal := .next s

/-- CLR (R141): every register takes its reset value, `ERR` and `WAIT` included. -/
def execClr (s : State) : Host.Outcome State Fault Refusal := .next (resetBlock s)

end Sys2Proof.Machine
end

