-- ==== Sys2Proof/Machine/Qualifier.lean ====
section
/-! DEFINITION. The commands of the Signal Qualifier, 41_signal_qualifier.md: QSAMPLE, DPUSH and DPUSHD. -/

namespace Sys2Proof.Machine

/-- The packing of QSAMPLE's result (R99): bits 31:17 are 0, bit 16 is `DET`, 15:8 the average, 7:0 the blend. -/
def packSample (det : Bool) (x : Sample) : Word := 0#15 ++ BitVec.ofBool det ++ x.avg ++ x.sp

/-- QSAMPLE (R99): one `QualSample(S)`, then `RESULT` packs `DET`, avg and sp. -/
def execQsample (s : State) : Host.Outcome State Fault Refusal :=
  let x := takeSample s.cfg s.opS s.regs
  let r := storeSample s.cfg x s.regs
  .next (s.withRegs (r.setResult (packSample r.det x)))

/-- DPUSH (R100): `DPush(A[0])`, then `RESULT <- zext_32(DSR)`. -/
def execDpush (s : State) : Host.Outcome State Fault Refusal :=
  let r := dPush s.opA0 s.regs
  .next (s.withRegs (r.setResult (r.dsr.setWidth 32)))

/-- DPUSHD (R101): `DPush(DET)`, then `RESULT <- zext_32(DSR)`. -/
def execDpushd (s : State) : Host.Outcome State Fault Refusal :=
  let r := dPush s.regs.det s.regs
  .next (s.withRegs (r.setResult (r.dsr.setWidth 32)))

end Sys2Proof.Machine
end

