-- ==== Sys2Proof/Machine/TimerArith.lean ====
section
/-! DEFINITION. The timer arithmetic commands of 40_timer_arith.md: WSUB and TDEC. -/

namespace Sys2Proof.Machine

/-- WSUB (R85): `RESULT <- wsub32(NOW, B)`; no other state changes. -/
def execWsub (s : State) : Host.Outcome State Fault Refusal :=
  .next (s.withRegs (s.regs.setResult (wsub32 s.opNow s.opB)))

/-- TDEC (R86): `RESULT <- dec32(A, B, NOW)`; no countdown register of the block is touched. -/
def execTdec (s : State) : Host.Outcome State Fault Refusal :=
  .next (s.withRegs (s.regs.setResult (dec32 s.opA s.opB s.opNow)))

end Sys2Proof.Machine
end

