-- ==== Sys2Proof/Machine/Dispatch.lean ====
section
/-! DEFINITION. One arm per command: the opcode map's semantics column (30_encoding.md R68). -/

namespace Sys2Proof.Machine

def exec (i : Instr) (s : State) : Host.Outcome State Fault Refusal :=
  match i with
  | .nop => Sys2Proof.Machine.execNop s
  | .wsub => Sys2Proof.Machine.execWsub s
  | .tdec => Sys2Proof.Machine.execTdec s
  | .qsample => Sys2Proof.Machine.execQsample s
  | .dpush => Sys2Proof.Machine.execDpush s
  | .dpushd => Sys2Proof.Machine.execDpushd s
  | .blink => Sys2Proof.Machine.execBlink s
  | .tick => Sys2Proof.Machine.execTick s
  | .clr => Sys2Proof.Machine.execClr s

end Sys2Proof.Machine
end

