-- ==== Sys2Proof/Machine/Accept.lean ====
section
/-! DEFINITION. What the block does with what the host presents: the acceptance of a command word with its port values
(30_encoding.md R65, R67, R69), the `RST` input and power-on (70_reset_and_hazards.md R161). -/

namespace Sys2Proof.Machine

/-- The block accepts a word: any word once a reset has been applied, and before that CLR alone, which is one of the
two resets that end the undefined state (R49, R161, R163; DEDUCED, log entry 5). -/
def accepts (live : Bool) (w : Byte) : Bool := live || w == encode .clr

/-- Run an accepted word (R69): a legal word executes its command, any other raises `IllegalCommand`. -/
def runWord (w : Byte) (s : State) : Host.Outcome State Fault Refusal :=
  match decode w with
  | .ok i => exec i s
  | .error _ => .next (raiseIllegalCommand w s)

/-- A word is presented with the port values `p`, which are sampled once for the whole command (R55, R67). -/
def acceptCommand (w : Byte) (p : Ports) (s : State) : Host.Outcome State Fault Refusal :=
  if accepts s.live w then runWord w { s with ports := p } else .fault .notReset

/-- One event of the host, taken between commands (R59, R161). -/
def acceptEvent (e : HostEvent) (s : State) : Host.Outcome State Fault Refusal :=
  match e with
  | .command w p => acceptCommand w p s
  | .rst => .next (resetBlock s)
  | .powerOn => .next (powerOnBlock s)

/-- The next event of the host, oldest first (R59); with none presented the block waits (R57, R160). -/
def acceptNext (s : State) : Host.Outcome State Fault Refusal :=
  match s.pending with
  | [] => .next s
  | e :: rest => acceptEvent e { s with pending := rest }

/-- The host presents `w` next, with the port values that stand on the ports, to a block that accepts it. -/
def presentNext (w : Byte) (s : State) : State :=
  { s with pending := .command w s.ports :: s.pending, live := true }

end Sys2Proof.Machine
end

