-- ==== Sys2Proof/Machine/Step.lean ====
section
/-! DEFINITION. One step of the machine: one thing the host presents (00_scope.md R6, 30_encoding.md R65). -/

namespace Sys2Proof.Machine

/-- One step: a configuration that breaks R8 is refused (I4); otherwise the next event of the host is taken, and a
command runs as one indivisible step (20_memory.md R55). -/
def step (s : State) : Host.Outcome State Fault Refusal :=
  if s.cfg.valid then acceptNext s else .refused .badConfiguration

/-- `s` with a row's word presented next, so that `step` runs exactly it: the block fetches nothing (R21, R65), the word
is what the host presents. -/
def State.withFetchWord (s : State) (nbits w : Nat) : State := presentNext (tableWord nbits w) s

end Sys2Proof.Machine
end

