-- ==== Sys2Proof/Machine/Assembler.lean ====
section
/-! DEFINITION. The assembler syntax of 30_encoding.md R77 and its one pseudo-command `REPEAT` (R78): from the text of a
listing to the events the host presents. It is presentation only: no rule of the block reads it. -/

namespace Sys2Proof.Machine

/-- Why a listing is rejected. -/
inductive AsmError where
  | unknownMnemonic
  | unknownPort
  /-- A port the command does not read (R77: the pairs are "for the ports the command reads"). -/
  | portNotRead
  | portTwice
  | badValue
  /-- A value wider than its port (DESIGN CHOICE, log entry 9). -/
  | valueTooWide
  /-- `base+k*step` on a port other than `NOW`, or outside a `REPEAT` (R78). -/
  | stepNotAllowed
  | badRepeat
  | repeatNotClosed
  deriving DecidableEq, Repr

/-- The mnemonic column of R68. -/
def mnemonics : List (List Char × Instr) :=
  [("NOP".toList, .nop), ("WSUB".toList, .wsub), ("TDEC".toList, .tdec), ("QSAMPLE".toList, .qsample),
   ("DPUSH".toList, .dpush), ("DPUSHD".toList, .dpushd), ("BLINK".toList, .blink), ("TICK".toList, .tick),
   ("CLR".toList, .clr)]

/-- The port names of R67. -/
def portNames : List (List Char × Port) :=
  [("A".toList, .a), ("B".toList, .b), ("NOW".toList, .now), ("S".toList, .s), ("M".toList, .m)]

/-- The width of a port in bits (R67). -/
def Port.width : Port → Nat
  | .a => 32
  | .b => 32
  | .now => 32
  | .s => 8
  | .m => 1

/-- One `port=value` pair; in a `REPEAT` body the value is `base + k*step` (R78), elsewhere `step` is 0. -/
structure AsmOperand where
  port : Port
  base : Nat
  step : Nat
  deriving DecidableEq, Repr

/-- One command line: its word, and its operands. -/
structure AsmLine where
  word : Byte
  operands : List AsmOperand
  deriving DecidableEq, Repr

/-- The value a line gives a port at repetition `k`; a port it omits is 0 (R77). -/
def AsmLine.value (l : AsmLine) (p : Port) (k : Nat) : Nat :=
  match l.operands.find? fun o => o.port == p with
  | some o => o.base + k * o.step
  | none => 0

/-- The command the host presents for a line at repetition `k`. -/
def AsmLine.event (l : AsmLine) (k : Nat) : HostEvent :=
  .command l.word
    { a := BitVec.ofNat 32 (l.value .a k)
      b := BitVec.ofNat 32 (l.value .b k)
      now := BitVec.ofNat 32 (l.value .now k)
      s := BitVec.ofNat 8 (l.value .s k)
      m := l.value .m k % 2 == 1 }

/-- `REPEAT n` stands for its body written out n times in order, `k` counting from 0 (R78). -/
def expandRepeat (n : Nat) (body : List AsmLine) : List HostEvent :=
  (List.range n).flatMap fun k => body.map fun l => l.event k

/-- The value of one digit, upper or lower case. -/
def digitValue (base : Nat) (ch : Char) : Option Nat :=
  let n := ch.toNat
  let d := if 48 ≤ n && n ≤ 57 then n - 48
    else if 65 ≤ n && n ≤ 70 then n - 55
    else if 97 ≤ n && n ≤ 102 then n - 87
    else base
  if d < base then some d else none

/-- The number a run of digits writes, after `acc`. -/
def digitsValue (base : Nat) : List Char → Nat → Option Nat
  | [], acc => some acc
  | ch :: rest, acc => (digitValue base ch).bind fun d => digitsValue base rest (acc * base + d)

/-- A number, decimal or `0x` hexadecimal (R77). -/
def numberValue (t : List Char) : Option Nat :=
  match t with
  | [] => none
  | ['0', 'x'] => none
  | '0' :: 'x' :: rest => digitsValue 16 rest 0
  | l => digitsValue 10 l 0

/-- The text before and after the first `ch`. -/
def splitFirst (ch : Char) (t : List Char) : List Char × Option (List Char) :=
  match t.dropWhile fun x => x != ch with
  | [] => (t, none)
  | _ :: after => (t.takeWhile fun x => x != ch, some after)

/-- A blank of a line. -/
def isBlank (ch : Char) : Bool := ch == ' ' || ch == '\t' || ch == '\r'

/-- A text without the blanks around it. -/
def trimBlanks (t : List Char) : List Char := ((t.dropWhile isBlank).reverse.dropWhile isBlank).reverse

/-- The base and the step of a value text: a number, or `base+k*step` (R78). -/
def valueText (t : List Char) : Option (Nat × Nat) :=
  match splitFirst '+' t with
  | (base, none) => (numberValue base).map fun v => (v, 0)
  | (base, some ('k' :: '*' :: step)) => (numberValue base).bind fun v => (numberValue step).map fun d => (v, d)
  | (_, some _) => none

/-- One `port=value` pair of a command. `inRepeat` tells whether the line stands in a `REPEAT` body. -/
def operandText (i : Instr) (inRepeat : Bool) (t : List Char) : Except AsmError AsmOperand :=
  match splitFirst '=' t with
  | (_, none) => .error .badValue
  | (name, some value) =>
    match portNames.lookup name, valueText value with
    | none, _ => .error .unknownPort
    | some _, none => .error .badValue
    | some p, some (base, step) =>
      if (portsRead i).contains p = false then .error .portNotRead
      else if 2 ^ p.width ≤ base then .error .valueTooWide
      else if step != 0 && !(inRepeat && p == .now) then .error .stepNotAllowed
      else .ok ⟨p, base, step⟩

/-- The operands of a command, left to right; no port twice. -/
def operandTexts (i : Instr) (inRepeat : Bool) : List (List Char) → List AsmOperand → Except AsmError (List AsmOperand)
  | [], done => .ok done
  | t :: rest, done =>
    match operandText i inRepeat (trimBlanks t) with
    | .error e => .error e
    | .ok o =>
      if done.any fun d => d.port == o.port then .error .portTwice else operandTexts i inRepeat rest (done ++ [o])

/-- A command line without its comment (R77): a mnemonic and its operands, or `.word` and a word. R77 writes a reserved
word `.word 0xNN`; that `.word` also takes a decimal number, and the word of a command (its ports then 0), is the
model's (DESIGN CHOICE, log entry 9). -/
def commandLine (inRepeat : Bool) (t : List Char) : Except AsmError AsmLine :=
  let head := t.takeWhile fun ch => !isBlank ch
  let tail := trimBlanks (t.dropWhile fun ch => !isBlank ch)
  if head = ".word".toList then
    match numberValue tail with
    | none => .error .badValue
    | some w => if 256 ≤ w then .error .valueTooWide else .ok ⟨BitVec.ofNat 8 w, []⟩
  else
    match mnemonics.lookup head with
    | none => .error .unknownMnemonic
    | some i =>
      match operandTexts i inRepeat (if tail.isEmpty then [] else tail.splitOn ',') [] with
      | .error e => .error e
      | .ok ops => .ok ⟨encode i, ops⟩

/-- The opening and the closing brace of a `REPEAT`. -/
def openBrace : Char := Char.ofNat 123

/-- The closing brace of a `REPEAT`. -/
def closeBrace : Char := Char.ofNat 125

/-- The count of a line `REPEAT n` followed by an opening brace. R78 states no line rule for the braces: that the opening
brace ends its line is the model's (DESIGN CHOICE, log entry 9), so a `REPEAT` on one line is a bad one. -/
def repeatCount (t : List Char) : Option Nat :=
  if "REPEAT ".toList.isPrefixOf t && t.getLast? == some openBrace then
    numberValue (trimBlanks (t.drop 7).dropLast)
  else none

/-- A listing, line by line. `body` is the open `REPEAT`, with its count and the lines read so far; that its closing brace
stands alone on a line is the model's (DESIGN CHOICE, log entry 9). -/
def assembleLines : List (List Char) → Option (Nat × List AsmLine) → Except AsmError (List HostEvent)
  | [], none => .ok []
  | [], some _ => .error .repeatNotClosed
  | t :: rest, body =>
    let line := trimBlanks (splitFirst ';' t).1
    match body with
    | none =>
      if line.isEmpty then assembleLines rest none
      else if "REPEAT".toList.isPrefixOf line then
        match repeatCount line with
        | none => .error .badRepeat
        | some n => assembleLines rest (some (n, []))
      else
        match commandLine false line with
        | .error e => .error e
        | .ok l => (assembleLines rest none).map fun es => l.event 0 :: es
    | some (n, ls) =>
      if line.isEmpty then assembleLines rest (some (n, ls))
      else if line = [closeBrace] then
        (assembleLines rest none).map fun es => expandRepeat n ls ++ es
      else
        match commandLine true line with
        | .error e => .error e
        | .ok l => assembleLines rest (some (n, ls ++ [l]))

/-- The events a listing stands for (R77, R78). -/
def assemble (text : List Char) : Except AsmError (List HostEvent) := assembleLines (text.splitOn '\n') none

end Sys2Proof.Machine
end

