-- ==== Sys2Proof/Safety.lean ====
section
/-! DEFINITION. The terms the statements use: the shape a state keeps, the properties of the FSM that every step keeps
(43_control_fsm.md R136, R138), when a tick runs in full, what a safe run is, and two relations between states. -/

namespace Sys2Proof.Machine

/-- The shape of a state: its configuration is one R8 admits, the history has N entries (R35), and once a reset has
been applied its index is in 0..N-1 (R36, R51). -/
abbrev State.Wf (s : State) : Prop :=
  s.cfg.valid = true ∧ s.regs.hist.length = s.cfg.filterLength ∧
  (s.live = true → s.regs.hidx < s.cfg.filterLength)

/-- The FSM's interlock (R136 (a), (b), (d), (e), R169 (d), R40): the relay follows `FAN`; no activation delay runs while
the fan does; `NEXT` is not Idle only while `STATE` is Idle; a Reset is latched only with the fan running; `RSTMAN` is
set only for a latched Reset; nothing is latched while the block is busy. -/
abbrev Regs.Interlocked (r : Regs) : Prop :=
  r.fan = r.relay ∧ (r.fan = true → r.trem.rem = 0#32) ∧ (r.state = .idle ∨ r.next = .idle) ∧
  (r.next = .reset → r.fan = true) ∧ (r.rstman = true → r.next = .reset) ∧
  (r.wait.rem ≠ 0#32 → r.next = .idle)

/-- `FAN = 1` implies `LED = 1` (R136 (c)), kept while the host issues no BLINK. -/
abbrev Regs.LedHeld (r : Regs) : Prop := r.fan = true → r.led = true

/-- No countdown but `BLK` (`Regs.BlinkBounded`) exceeds the duration it is armed with (10_state.md R28 to R32, R34; R138
for `WAIT`). -/
abbrev Regs.Bounded (c : Params) (r : Regs) : Prop :=
  r.trem.rem.toNat ≤ c.delayTime ∧ r.frem.rem.toNat ≤ c.runTime ∧ r.sdet.rem.toNat ≤ c.blockDetectionDelay ∧
  r.bmi.rem.toNat ≤ c.motionBlockTime ∧ r.idly.rem.toNat ≤ c.detectionInterDelay ∧
  r.wait.rem.toNat ≤ max c.actDebounce c.blockDetectionDelay

/-- `BLK` does not exceed the longest duration a TICK arms it with (10_state.md R33, 42_blink.md R107), kept while the host
issues no BLINK, whose period is any value of `A`. -/
abbrev Regs.BlinkBounded (c : Params) (r : Regs) : Prop :=
  r.blk.rem.toNat ≤ max c.blinkOnTime (max c.waitingBlinkTime c.heartbeatBlinkTime)

/-- A TICK at time `now` runs every phase: the block is not busy, or the wait ends at `now` (R115). -/
abbrev Regs.TickRuns (r : Regs) (now : Word) : Prop := dec32 r.wait.rem r.wait.ref now = 0#32

/-- A run of `n` steps is safe when it stops nowhere and ends in a state of the right shape. -/
abbrev SafeRun (n : Nat) (s : State) : Prop := ∃ t, Host.Core.run Sys2Proof.core n s = .next t ∧ State.Wf t

/-- The registers with `ERR` taken out of account: `ERR` is an input to no rule (60_exceptions.md R150). -/
def Regs.withErr (r : Regs) (b : Bool) : Regs := { r with err := b }

/-- Two countdowns that agree but for the reference of an expired one (10_state.md R48). -/
abbrev Countdown.SameWhileActive (c d : Countdown) : Prop := c.rem = d.rem ∧ (c.rem ≠ 0#32 → c.ref = d.ref)

/-- Two register files that agree but for the references of expired countdowns (R48). -/
abbrev Regs.SameButExpiredRefs (r q : Regs) : Prop :=
  Countdown.SameWhileActive r.trem q.trem ∧ Countdown.SameWhileActive r.frem q.frem ∧
  Countdown.SameWhileActive r.sdet q.sdet ∧ Countdown.SameWhileActive r.bmi q.bmi ∧
  Countdown.SameWhileActive r.idly q.idly ∧ Countdown.SameWhileActive r.blk q.blk ∧
  Countdown.SameWhileActive r.wait q.wait ∧
  { r with trem := .zero, frem := .zero, sdet := .zero, bmi := .zero, idly := .zero, blk := .zero, wait := .zero } =
  { q with trem := .zero, frem := .zero, sdet := .zero, bmi := .zero, idly := .zero, blk := .zero, wait := .zero }

/-- The host presents `QSAMPLE S=x` and then `DPUSHD`, for each sample of a list (R98 (e)). -/
def sampleAndPush (xs : List Byte) : List HostEvent :=
  xs.flatMap fun x => [.command (encode .qsample) { Ports.zero with s := x }, .command (encode .dpushd) Ports.zero]

/-- The host presents one DPUSH for each bit of a list (R97). -/
def pushAll (bs : List Bool) : List HostEvent :=
  bs.map fun b => .command (encode .dpush) { Ports.zero with a := (BitVec.ofBool b).setWidth 32 }

/-- A countdown advanced at the times that lie `es` microseconds apart, one after another (40_timer_arith.md R83). -/
def Countdown.advanceBy (c : Countdown) (es : List Nat) : Countdown :=
  es.foldl (fun d e => d.advance (d.ref + BitVec.ofNat 32 e)) c

end Sys2Proof.Machine
end

