-- ==== Sys2Proof/Certificates/Slice0/Obligations.lean ====
section
/-! DEFINITION. The statements for the provers, one definition each; OBLIGATIONS.json lists them. -/

open Sys2Proof
open Sys2Proof.Machine

/-! ## Encoding -/

/-- R69: decode is total on the 256 words, exactly the 9 words 0x00 to 0x08 are legal, and the reserved bits are tested
before the opcode. -/
def Obligations.ExactlyNineWordsLegal : Prop :=
  (∀ w : Byte, w.toNat ≤ 8 → ∃ i, decode w = .ok i ∧ i.opcode = fieldOp w) ∧
  (∀ w : Byte, fieldRsv w ≠ 0#4 → decode w = .error .reservedBits) ∧
  (∀ w : Byte, fieldRsv w = 0#4 → 8 < (fieldOp w).toNat → decode w = .error .reservedOpcode)

/-- Decode and encode agree in both directions (R66, R68, R79): every command is well formed, its word decodes to it, and no other
word does. -/
def Obligations.DecodeEncodeAgree : Prop :=
  ∀ i : Instr, i.wellFormed = true →
    decode (encode i) = .ok i ∧ decodeTableWord 8 (encode i).toNat = some i ∧
    ∀ w : Byte, decode w = .ok i → w = encode i

/-- Words written out bit by bit from the opcode map R68 decode to the command of their row, one of every family. -/
def Obligations.OpcodeMapWords : Prop :=
  decode 0b00000000#8 = .ok .nop ∧ decode 0b00000001#8 = .ok .wsub ∧ decode 0b00000010#8 = .ok .tdec ∧
  decode 0b00000011#8 = .ok .qsample ∧ decode 0b00000100#8 = .ok .dpush ∧ decode 0b00000101#8 = .ok .dpushd ∧
  decode 0b00000110#8 = .ok .blink ∧ decode 0b00000111#8 = .ok .tick ∧ decode 0b00001000#8 = .ok .clr ∧
  decode 0b00001001#8 = .error .reservedOpcode ∧ decode 0b00011000#8 = .error .reservedBits

/-! ## The step -/

/-- A step runs the decoded command: the oldest word the host presents, on the port values presented with it (R55, R65). -/
def Obligations.StepRunsDecodedCommand : Prop :=
  ∀ (s : State) (w : Byte) (p : Ports) (rest : List HostEvent) (i : Instr),
    s.cfg.valid = true → s.live = true → s.pending = .command w p :: rest → decode w = .ok i →
    step s = exec i { s with ports := p, pending := rest }

/-- A word placed by `withFetchWord` is the one the very next step runs, whatever was pending. -/
def Obligations.StepRunsFetchedWord : Prop :=
  ∀ (s : State) (i : Instr), s.cfg.valid = true →
    step (s.withFetchWord 8 (encode i).toNat) = exec i { s with live := true }

/-- R144: an illegal word sets `ERR` and changes nothing else, and a set `ERR` stays set until CLR, the `RST` input or a
loss of power. -/
def Obligations.IllegalWordSetsErrOnly : Prop :=
  (∀ (s : State) (w : Byte) (p : Ports) (rest : List HostEvent),
    s.cfg.valid = true → s.live = true → s.pending = .command w p :: rest → 8 < w.toNat →
    step s = .next { s with regs := { s.regs with err := true }, ports := p, pending := rest }) ∧
  (∀ s t : State, s.live = true → s.regs.err = true → step s = .next t →
    (∀ p rest, s.pending ≠ .command 0x08#8 p :: rest) → (∀ rest, s.pending ≠ .rst :: rest) →
    (∀ rest, s.pending ≠ .powerOn :: rest) → t.regs.err = true)

/-- R8: a configuration that breaks a constraint is refused, and nothing else is. -/
def Obligations.BadConfigurationRefused : Prop :=
  ∀ s : State, step s = .refused .badConfiguration ↔
    ¬ (s.cfg.delayTime < 2 ^ 32 ∧ s.cfg.runTime < 2 ^ 32 ∧ s.cfg.heartbeatBlinkTime < 2 ^ 32 ∧
       s.cfg.waitingBlinkTime < 2 ^ 32 ∧ s.cfg.blinkOnTime < 2 ^ 32 ∧ s.cfg.blockDetectionDelay < 2 ^ 32 ∧
       s.cfg.detectionInterDelay < 2 ^ 32 ∧ s.cfg.actDebounce < 2 ^ 32 ∧
       s.cfg.motionBlockMult * s.cfg.blockDetectionDelay < 2 ^ 32 ∧ 1 ≤ s.cfg.filterLength ∧
       s.cfg.iirNum ≤ s.cfg.iirDen ∧ 1 ≤ s.cfg.iirDen ∧ s.cfg.debounceWidth = 8)

/-- Before the first reset no command but CLR is accepted: the machine is stuck (R49, I1); CLR is accepted by the model's
reading of R161 and R163 (log entry 5). Power-on leaves such a state. -/
def Obligations.NoCommandBeforeReset : Prop :=
  (∀ (s : State) (w : Byte) (p : Ports) (rest : List HostEvent),
    s.cfg.valid = true → s.live = false → s.pending = .command w p :: rest → w ≠ 0x08#8 →
    step s = .fault .notReset) ∧
  (∀ (s : State) (rest : List HostEvent), s.cfg.valid = true → s.pending = .powerOn :: rest →
    ∃ t, step s = .next t ∧ t.live = false ∧ t.cfg = s.cfg ∧ t.pending = rest)

/-- The reset sources of R161: the `RST` input and CLR perform the same assignment, whatever the registers held; power-on
leaves a block that has had no reset, and each of the two ends that. That CLR is accepted before the first reset is the
model's reading (DEDUCED, log entry 5); that a block to which nothing is presented waits by a step that leaves it as it
is is the model's form of R57 (log entry 2). -/
def Obligations.ResetSourcesAgree : Prop :=
  (∀ (s : State) (p : Ports) (rest : List HostEvent), s.cfg.valid = true → s.pending = .command 0x08#8 p :: rest →
    step s = .next { s with regs := Regs.reset s.cfg.filterLength, live := true, ports := p, pending := rest }) ∧
  (∀ (s : State) (rest : List HostEvent), s.cfg.valid = true → s.pending = .rst :: rest →
    step s = .next { s with regs := Regs.reset s.cfg.filterLength, live := true, pending := rest }) ∧
  (∀ (s : State) (p : Ports) (e : HostEvent) (rest : List HostEvent), s.cfg.valid = true →
    s.pending = .powerOn :: e :: rest → e = .rst ∨ e = .command 0x08#8 p →
    ∃ t u, step s = .next t ∧ t.live = false ∧ step t = .next u ∧ u.live = true ∧
      u.regs = Regs.reset s.cfg.filterLength ∧ u.pending = rest) ∧
  (∀ s : State, s.cfg.valid = true → s.pending = [] → step s = .next s)

/-! ## Reset and housekeeping -/

/-- R160: every register's value after any reset: in the reset state of the default block, after the `RST` input and
after CLR, for a history of any length. That CLR is accepted before the first reset too is the model's reading (DEDUCED,
log entry 5). -/
def Obligations.ResetRegisterValues : Prop :=
  (∀ n : Nat, Regs.reset n =
    { state := .idle, next := .idle, fan := false, relay := false, led := false,
      trem := ⟨0#32, 0#32⟩, frem := ⟨0#32, 0#32⟩, sdet := ⟨0#32, 0#32⟩, bmi := ⟨0#32, 0#32⟩,
      idly := ⟨0#32, 0#32⟩, blk := ⟨0#32, 0#32⟩, wait := ⟨0#32, 0#32⟩,
      hist := List.replicate n 0#8, hidx := 0, det := false, dsr := 0x00#8,
      rstman := false, err := false, evt := 0b000#3, result := 0#32 }) ∧
  State.reset.regs = Regs.reset 10 ∧ State.reset.regs.qual = false ∧ State.reset.regs.busy = false ∧
  (∀ (s : State) (rest : List HostEvent), s.cfg.valid = true → s.pending = .rst :: rest →
    ∃ t, step s = .next t ∧ t.regs = Regs.reset s.cfg.filterLength) ∧
  (∀ (s : State) (p : Ports) (rest : List HostEvent), s.cfg.valid = true → s.pending = .command 0x08#8 p :: rest →
    ∃ t, step s = .next t ∧ t.regs = Regs.reset s.cfg.filterLength)

/-- R140: NOP changes nothing. -/
def Obligations.NopChangesNothing : Prop :=
  encode .nop = 0x00#8 ∧ ∀ s : State, exec .nop s = .next s

/-- R141: CLR gives every register its reset value whatever the ports and the registers hold, a busy block included; it
is the only command that clears `ERR`. -/
def Obligations.ClrResetsEveryRegister : Prop :=
  encode .clr = 0x08#8 ∧
  (∀ s : State, exec .clr s = .next { s with
    live := true
    regs :=
      { state := .idle, next := .idle, fan := false, relay := false, led := false,
        trem := ⟨0#32, 0#32⟩, frem := ⟨0#32, 0#32⟩, sdet := ⟨0#32, 0#32⟩, bmi := ⟨0#32, 0#32⟩,
        idly := ⟨0#32, 0#32⟩, blk := ⟨0#32, 0#32⟩, wait := ⟨0#32, 0#32⟩,
        hist := List.replicate s.cfg.filterLength 0#8, hidx := 0, det := false, dsr := 0#8,
        rstman := false, err := false, evt := 0#3, result := 0#32 } }) ∧
  (∀ (i : Instr) (s t : State), i ≠ .clr → exec i s = .next t → t.regs.err = s.regs.err)

/-! ## Timer arithmetic -/

/-- R85: WSUB writes (NOW - B) mod 2^32 to `RESULT` and changes no other state. -/
def Obligations.WsubResult : Prop :=
  encode .wsub = 0x01#8 ∧
  ∀ s : State, exec .wsub s = .next { s with regs := { s.regs with
    result := BitVec.ofNat 32 ((s.ports.now.toNat + 2 ^ 32 - s.ports.b.toNat) % 2 ^ 32) } }

/-- R86, R87: TDEC writes to `RESULT` the remaining time less the elapsed time (NOW - B) mod 2^32 when that is strictly
less, and else 0, and changes no other state. -/
def Obligations.TdecResult : Prop :=
  encode .tdec = 0x02#8 ∧
  ∀ (s : State) (elapsed : Nat), elapsed = (s.ports.now.toNat + 2 ^ 32 - s.ports.b.toNat) % 2 ^ 32 →
    exec .tdec s = .next { s with regs := { s.regs with
      result := BitVec.ofNat 32 (if elapsed < s.ports.a.toNat then s.ports.a.toNat - elapsed else 0) } }

/-- R80, R81: the two timer primitives on unsigned integers, and the laws R82 (a) to (d). (Of law (e) the second clause
says what R81 does: at an elapsed time of exactly `rem` the difference and the 0 of (d) are the same number.) -/
def Obligations.CountdownDecrementLaws : Prop :=
  ∀ r l n : Word,
    (wsub32 n l).toNat = (n.toNat + 2 ^ 32 - l.toNat) % 2 ^ 32 ∧
    (dec32 r l n).toNat = (if (wsub32 n l).toNat < r.toNat then r.toNat - (wsub32 n l).toNat else 0) ∧
    (∀ e : Nat, (wsub32 (l + BitVec.ofNat 32 e) l).toNat = e % 2 ^ 32) ∧
    (dec32 r l n).toNat ≤ r.toNat ∧ dec32 0#32 l n = 0#32 ∧ dec32 r l l = r ∧
    (dec32 r l n = 0#32 ↔ r.toNat ≤ (wsub32 n l).toNat)

/-- The telescoping law R83 for any number of advances: a countdown whose advances lie `es` apart, less than 2^32 in
all, holds what one subtraction over the whole interval gives. -/
def Obligations.CountdownAdvancesTelescope : Prop :=
  (∀ (r t0 : Word) (e1 e2 : Nat), e1 + e2 < 2 ^ 32 →
    dec32 (dec32 r t0 (t0 + BitVec.ofNat 32 e1)) (t0 + BitVec.ofNat 32 e1) (t0 + BitVec.ofNat 32 (e1 + e2)) =
      dec32 r t0 (t0 + BitVec.ofNat 32 (e1 + e2))) ∧
  (∀ (c : Countdown) (es : List Nat), es.sum < 2 ^ 32 →
    (c.advanceBy es).rem.toNat = c.rem.toNat - es.sum ∧
    ((c.advanceBy es).rem = 0#32 ↔ c.rem.toNat ≤ es.sum))

/-- R176: when `NOW` is d microseconds before the last advance, every value up to 2^32 - d is counted down to 0. -/
def Obligations.BackwardClockExpiresCountdown : Prop :=
  ∀ (c : Countdown) (d : Nat), 0 < d → d < 2 ^ 32 → c.rem.toNat ≤ 2 ^ 32 - d →
    c.advance (c.ref - BitVec.ofNat 32 d) = ⟨0#32, c.ref - BitVec.ofNat 32 d⟩

/-! ## Signal qualifier -/

/-- R99 with R90: QSAMPLE's every effect in exact integers: the average over the history before the store, the blend, the
store, the index, `DET`, the packed `RESULT`; nothing else changes, and both values fit 8 bits. -/
def Obligations.QsampleResult : Prop :=
  encode .qsample = 0x03#8 ∧
  ∀ (s : State) (avg sp : Nat) (det : Bool), s.Wf →
    avg = (s.regs.hist.map BitVec.toNat).sum / s.cfg.filterLength →
    sp = (avg * s.cfg.iirNum + s.ports.s.toNat * (s.cfg.iirDen - s.cfg.iirNum)) / s.cfg.iirDen →
    det = decide (sp > s.cfg.threshMult * max s.cfg.minThreshold avg) →
    avg ≤ 255 ∧ sp ≤ 255 ∧
    exec .qsample s = .next { s with regs := { s.regs with
      hist := s.regs.hist.set s.regs.hidx (BitVec.ofNat 8 sp)
      hidx := (s.regs.hidx + 1) % s.cfg.filterLength
      det := det
      result := BitVec.ofNat 32 (65536 * det.toNat + 256 * avg + sp) } }

/-- R100: DPUSH shifts `A[0]` into `DSR` at bit 0, and `RESULT` is the new `DSR`; nothing else changes. -/
def Obligations.DpushResult : Prop :=
  encode .dpush = 0x04#8 ∧
  ∀ (s : State) (d : Nat), d = (2 * s.regs.dsr.toNat + s.ports.a.toNat % 2) % 256 →
    exec .dpush s = .next { s with regs := { s.regs with dsr := BitVec.ofNat 8 d, result := BitVec.ofNat 32 d } }

/-- R101: DPUSHD does the same with `DET`, which it leaves as it is. -/
def Obligations.DpushdResult : Prop :=
  encode .dpushd = 0x05#8 ∧
  ∀ (s : State) (d : Nat), d = (2 * s.regs.dsr.toNat + s.regs.det.toNat) % 256 →
    exec .dpushd s = .next { s with regs := { s.regs with dsr := BitVec.ofNat 8 d, result := BitVec.ofNat 32 d } }

/-- R96: `QUAL` is unanimity over the 8 bits of `DSR`. -/
def Obligations.QualIsUnanimity : Prop :=
  ∀ r : Regs, (r.outputs.qual = true ↔ r.dsr = 0xFF#8) ∧
    (r.outputs.qual = true ↔ ∀ j : Nat, j < 8 → r.dsr.getLsbD j = true)

/-- R97, over DPUSH: after a push of 0 `QUAL` is 0, and stays 0 for the next 7 pushes whatever they are; 8 pushes of 1
from any state make it 1; from the `DSR` that reset leaves, `QUAL` is 1 within 8 pushes only at the 8th, all of them 1. -/
def Obligations.OnePushOfZeroCostsEight : Prop :=
  (∀ (s : State) (bs : List Bool) (rest : List HostEvent),
    s.cfg.valid = true → s.live = true → bs.length ≤ 7 → s.pending = pushAll (false :: bs) ++ rest →
    ∃ t, Host.Core.run core (1 + bs.length) s = .next t ∧ t.regs.qual = false ∧ t.pending = rest) ∧
  (∀ (s : State) (rest : List HostEvent),
    s.cfg.valid = true → s.live = true → s.pending = pushAll (List.replicate 8 true) ++ rest →
    ∃ t, Host.Core.run core 8 s = .next t ∧ t.regs.qual = true ∧ t.pending = rest) ∧
  (∀ (s : State) (bs : List Bool) (rest : List HostEvent),
    s.cfg.valid = true → s.live = true → s.regs.dsr = 0x00#8 → bs.length ≤ 8 → s.pending = pushAll bs ++ rest →
    ∃ t, Host.Core.run core bs.length s = .next t ∧ t.pending = rest ∧
      (t.regs.qual = true ↔ bs = List.replicate 8 true))

/-- R98 (a) to (d), the properties of one sample at the default parameters. -/
def Obligations.DetectionThresholds : Prop :=
  ∀ (s t : State) (avg : Nat), s.Wf → s.cfg = Params.default → exec .qsample s = .next t →
    avg = (s.regs.hist.map BitVec.toNat).sum / 10 →
    (s.ports.s.toNat = avg → t.regs.det = false ∧ t.regs.hist = s.regs.hist.set s.regs.hidx s.ports.s) ∧
    (t.regs.det = true → 81 ≤ t.regs.result.toNat % 256) ∧
    (64 ≤ avg → t.regs.det = false) ∧
    (avg = 0 → (t.regs.det = true ↔ 135 ≤ s.ports.s.toNat))

/-- R98 (e): at the default parameters, from any state and for any eight samples, eight pushes that each follow one sample
never qualify. -/
def Obligations.OnePushPerSampleNeverQualifies : Prop :=
  ∀ (s : State) (xs : List Byte) (rest : List HostEvent),
    s.Wf → s.live = true → s.cfg = Params.default → xs.length = 8 → s.pending = sampleAndPush xs ++ rest →
    ∃ t, Host.Core.run core 16 s = .next t ∧ t.regs.qual = false ∧ t.pending = rest

/-! ## Blink -/

/-- R109 with R105: BLINK advances `BLK`; while it stays nonzero nothing else but `RESULT` changes; when it is 0 the LED
toggles, ON for `BLINK_ON_TIME` and OFF for the period `A`. `FAN` and `TREM` are not looked at. -/
def Obligations.BlinkResult : Prop :=
  encode .blink = 0x06#8 ∧
  ∀ (s : State) (left : Word), left = dec32 s.regs.blk.rem s.regs.blk.ref s.ports.now →
    (left ≠ 0#32 → exec .blink s = .next { s with regs := { s.regs with
      blk := ⟨left, s.ports.now⟩, result := left } }) ∧
    (left = 0#32 → s.regs.led = false → exec .blink s = .next { s with regs := { s.regs with
      led := true
      blk := ⟨BitVec.ofNat 32 s.cfg.blinkOnTime, s.ports.now⟩
      result := BitVec.ofNat 32 s.cfg.blinkOnTime } }) ∧
    (left = 0#32 → s.regs.led = true → exec .blink s = .next { s with regs := { s.regs with
      led := false, blk := ⟨s.ports.a, s.ports.now⟩, result := s.ports.a } })

/-- R120 with R107: in a full tick with `FAN = 0` the blink takes one step, its OFF period chosen by the advanced `TREM`
(seen where the handler does not write the LED: committed Idle or Detected); with `FAN = 1` `BLK` is untouched. -/
def Obligations.TickBlinkPhase : Prop :=
  ∀ (s : State) (left period : Word),
    s.regs.TickRuns s.ports.now → left = dec32 s.regs.blk.rem s.regs.blk.ref s.ports.now →
    period = BitVec.ofNat 32 (if dec32 s.regs.trem.rem s.regs.trem.ref s.ports.now = 0#32
      then s.cfg.heartbeatBlinkTime else s.cfg.waitingBlinkTime) →
    ∃ t, exec .tick s = .next t ∧
      (s.regs.fan = true → t.regs.blk = s.regs.blk) ∧
      (s.regs.fan = false → left ≠ 0#32 → t.regs.blk = ⟨left, s.ports.now⟩) ∧
      (s.regs.fan = false → left = 0#32 → s.regs.led = false →
        t.regs.blk = ⟨BitVec.ofNat 32 s.cfg.blinkOnTime, s.ports.now⟩) ∧
      (s.regs.fan = false → left = 0#32 → s.regs.led = true → t.regs.blk = ⟨period, s.ports.now⟩) ∧
      (s.regs.fan = false → s.regs.next = .idle ∨ s.regs.next = .detected →
        t.regs.led = if left = 0#32 then !s.regs.led else s.regs.led)

/-! ## The tick -/

/-- R115: a TICK that finds `WAIT` still nonzero after advancing it changes nothing else; a TICK at which it reaches 0
goes on as an unblocked one; a command other than TICK is not blocked. -/
def Obligations.BusyTickAdvancesWaitOnly : Prop :=
  (∀ (s : State) (left : Word), left = dec32 s.regs.wait.rem s.regs.wait.ref s.ports.now →
    s.regs.wait.rem ≠ 0#32 →
    (left ≠ 0#32 → exec .tick s = .next { s with regs := { s.regs with wait := ⟨left, s.ports.now⟩ } }) ∧
    (left = 0#32 → exec .tick s = exec .tick { s with regs := { s.regs with wait := ⟨0#32, s.ports.now⟩ } })) ∧
  (∀ (i : Instr) (s : State), i ≠ .tick → ∃ t, exec i s = .next t)

/-- R116: a full tick commits `NEXT` and clears `EVT` before its handler sets the bits of what ran; nothing but TICK and
CLR writes `STATE`. -/
def Obligations.TickCommitsNext : Prop :=
  (∀ s : State, s.regs.TickRuns s.ports.now → ∃ t, exec .tick s = .next t ∧ t.regs.state = s.regs.next ∧
    t.regs.evt = (match s.regs.next with
      | .idle => 0b000#3
      | .detected => if s.regs.fan then 0b011#3 else 0b001#3
      | .activate => 0b010#3
      | .reset => 0b100#3)) ∧
  (∀ (i : Instr) (s t : State), i ≠ .tick → i ≠ .clr → exec i s = .next t →
    t.regs.state = s.regs.state ∧ t.regs.evt = s.regs.evt)

/-- R118: every full tick takes one sample, and pushes its `DET` exactly when `IDLY` is 0 after advancing, which re-arms
it; whatever handler runs. The pushed bit counts for the guards of the same tick. -/
def Obligations.TickQualifierPhase : Prop :=
  ∀ (s : State) (avg sp : Nat) (det : Bool) (idly : Word), s.Wf → s.regs.TickRuns s.ports.now →
    avg = (s.regs.hist.map BitVec.toNat).sum / s.cfg.filterLength →
    sp = (avg * s.cfg.iirNum + s.ports.s.toNat * (s.cfg.iirDen - s.cfg.iirNum)) / s.cfg.iirDen →
    det = decide (sp > s.cfg.threshMult * max s.cfg.minThreshold avg) →
    idly = dec32 s.regs.idly.rem s.regs.idly.ref s.ports.now →
    ∃ t, exec .tick s = .next t ∧
      t.regs.hist = s.regs.hist.set s.regs.hidx (BitVec.ofNat 8 sp) ∧
      t.regs.hidx = (s.regs.hidx + 1) % s.cfg.filterLength ∧ t.regs.det = det ∧
      (idly ≠ 0#32 → t.regs.idly = ⟨idly, s.ports.now⟩ ∧ t.regs.dsr = s.regs.dsr) ∧
      (idly = 0#32 → t.regs.idly = ⟨BitVec.ofNat 32 s.cfg.detectionInterDelay, s.ports.now⟩ ∧
        t.regs.dsr = BitVec.ofNat 8 ((2 * s.regs.dsr.toNat + det.toNat) % 256)) ∧
      (s.regs.next = .idle → t.regs.dsr = 0xFF#8 → t.regs.sdet.rem = 0#32 → t.regs.bmi.rem = 0#32 →
        t.regs.next = .detected)

/-- R122 to R125 with R119 and R121: a full tick that commits Idle advances the four countdowns, and latches the first
guard that holds, Detected, then Reset with `RSTMAN <- M`, then Activate on a press with the fan off or on the expiry of
an armed `TREM`, else Idle; it changes neither `FAN`, `RELAY` nor the wait, but for the end of one. A full tick that
commits another state latches Idle, whatever expires in it. -/
def Obligations.IdleTickLatchesFirstGuard : Prop :=
  (∀ s : State, s.regs.TickRuns s.ports.now → s.regs.next ≠ .idle →
    ∃ t, exec .tick s = .next t ∧ t.regs.next = .idle) ∧
  ∀ s : State, s.regs.TickRuns s.ports.now → s.regs.next = .idle →
    ∃ t, exec .tick s = .next t ∧ t.regs.state = .idle ∧ t.regs.evt = 0#3 ∧
      t.regs.trem = ⟨dec32 s.regs.trem.rem s.regs.trem.ref s.ports.now, s.ports.now⟩ ∧
      t.regs.frem = ⟨dec32 s.regs.frem.rem s.regs.frem.ref s.ports.now, s.ports.now⟩ ∧
      t.regs.sdet = ⟨dec32 s.regs.sdet.rem s.regs.sdet.ref s.ports.now, s.ports.now⟩ ∧
      t.regs.bmi = ⟨dec32 s.regs.bmi.rem s.regs.bmi.ref s.ports.now, s.ports.now⟩ ∧
      t.regs.fan = s.regs.fan ∧ t.regs.relay = s.regs.relay ∧ t.regs.wait.rem = 0#32 ∧
      (t.regs.dsr = 0xFF#8 ∧ t.regs.sdet.rem = 0#32 ∧ t.regs.bmi.rem = 0#32 →
        t.regs.next = .detected ∧ t.regs.rstman = s.regs.rstman) ∧
      (¬ (t.regs.dsr = 0xFF#8 ∧ t.regs.sdet.rem = 0#32 ∧ t.regs.bmi.rem = 0#32) →
        (s.regs.fan = true ∧ (s.ports.m = true ∨ t.regs.frem.rem = 0#32) →
          t.regs.next = .reset ∧ t.regs.rstman = s.ports.m) ∧
        (¬ (s.regs.fan = true ∧ (s.ports.m = true ∨ t.regs.frem.rem = 0#32)) →
          t.regs.rstman = s.regs.rstman ∧
          t.regs.next = if (s.ports.m = true ∧ s.regs.fan = false) ∨
            (s.regs.trem.rem ≠ 0#32 ∧ t.regs.trem.rem = 0#32) then .activate else .idle))

/-- R126 and R127: a full tick that commits Detected sets `EVT[0]` and arms `SDET`, whether the fan runs or not; with the
fan off it arms `TREM`, an active one included, latches Idle, and starts nothing. -/
def Obligations.DetectedTickArmsDelay : Prop :=
  (∀ s : State, s.regs.TickRuns s.ports.now → s.regs.next = .detected →
    ∃ t, exec .tick s = .next t ∧ t.regs.evt.getLsbD 0 = true ∧
      t.regs.sdet = ⟨BitVec.ofNat 32 s.cfg.blockDetectionDelay, s.ports.now⟩) ∧
  ∀ s : State, s.regs.TickRuns s.ports.now → s.regs.next = .detected → s.regs.fan = false →
    ∃ t, exec .tick s = .next t ∧ t.regs.state = .detected ∧ t.regs.next = .idle ∧ t.regs.evt = 0b001#3 ∧
      t.regs.sdet = ⟨BitVec.ofNat 32 s.cfg.blockDetectionDelay, s.ports.now⟩ ∧
      t.regs.trem = ⟨BitVec.ofNat 32 s.cfg.delayTime, s.ports.now⟩ ∧
      t.regs.frem = ⟨dec32 s.regs.frem.rem s.regs.frem.ref s.ports.now, s.ports.now⟩ ∧
      t.regs.bmi = ⟨dec32 s.regs.bmi.rem s.regs.bmi.ref s.ports.now, s.ports.now⟩ ∧
      t.regs.fan = false ∧ t.regs.relay = s.regs.relay ∧ t.regs.wait.rem = 0#32 ∧ t.regs.rstman = s.regs.rstman

/-- R128: a full tick that commits Detected with the fan running chains every effect of Activate after the common part,
in the same tick. -/
def Obligations.DetectedTickChainsActivate : Prop :=
  ∀ s : State, s.regs.TickRuns s.ports.now → s.regs.next = .detected → s.regs.fan = true →
    ∃ t, exec .tick s = .next t ∧ t.regs.state = .detected ∧ t.regs.next = .idle ∧ t.regs.evt = 0b011#3 ∧
      t.regs.sdet = ⟨BitVec.ofNat 32 s.cfg.blockDetectionDelay, s.ports.now⟩ ∧
      t.regs.frem = ⟨BitVec.ofNat 32 s.cfg.runTime, s.ports.now⟩ ∧ t.regs.trem = ⟨0#32, s.ports.now⟩ ∧
      t.regs.bmi = ⟨dec32 s.regs.bmi.rem s.regs.bmi.ref s.ports.now, s.ports.now⟩ ∧
      t.regs.fan = true ∧ t.regs.relay = true ∧ t.regs.led = true ∧
      t.regs.wait = ⟨BitVec.ofNat 32 s.cfg.actDebounce, s.ports.now⟩ ∧ t.regs.rstman = s.regs.rstman

/-- R129 and R130: every execution of the Activate handler, in a full tick that commits Activate or chained from Detected
with the fan running, starts or refreshes the fan run, cancels the delay and arms the debounce wait, manual or not. -/
def Obligations.ActivateTickStartsFan : Prop :=
  ∀ s : State, s.regs.TickRuns s.ports.now →
    s.regs.next = .activate ∨ (s.regs.next = .detected ∧ s.regs.fan = true) →
    ∃ t, exec .tick s = .next t ∧ t.regs.state = s.regs.next ∧ t.regs.next = .idle ∧
      t.regs.evt = (if s.regs.next = .activate then 0b010#3 else 0b011#3) ∧
      t.regs.fan = true ∧ t.regs.relay = true ∧ t.regs.led = true ∧
      t.regs.frem = ⟨BitVec.ofNat 32 s.cfg.runTime, s.ports.now⟩ ∧ t.regs.trem = ⟨0#32, s.ports.now⟩ ∧
      (s.regs.next = .activate →
        t.regs.sdet = ⟨dec32 s.regs.sdet.rem s.regs.sdet.ref s.ports.now, s.ports.now⟩) ∧
      t.regs.bmi = ⟨dec32 s.regs.bmi.rem s.regs.bmi.ref s.ports.now, s.ports.now⟩ ∧
      t.regs.wait = ⟨BitVec.ofNat 32 s.cfg.actDebounce, s.ports.now⟩ ∧ t.regs.rstman = s.regs.rstman

/-- R131 and R132: a full tick that commits Reset stops the fan, clears both run countdowns, arms the sensor block, and
arms the 3 s wait exactly when the reset was manual; `RSTMAN` is cleared. -/
def Obligations.ResetTickStopsFan : Prop :=
  ∀ s : State, s.regs.TickRuns s.ports.now → s.regs.next = .reset →
    ∃ t, exec .tick s = .next t ∧ t.regs.state = .reset ∧ t.regs.next = .idle ∧ t.regs.evt = 0b100#3 ∧
      t.regs.fan = false ∧ t.regs.relay = false ∧ t.regs.led = false ∧ t.regs.rstman = false ∧
      t.regs.frem = ⟨0#32, s.ports.now⟩ ∧ t.regs.trem = ⟨0#32, s.ports.now⟩ ∧
      t.regs.bmi = ⟨BitVec.ofNat 32 (s.cfg.motionBlockMult * s.cfg.blockDetectionDelay), s.ports.now⟩ ∧
      t.regs.sdet = ⟨dec32 s.regs.sdet.rem s.regs.sdet.ref s.ports.now, s.ports.now⟩ ∧
      (s.regs.rstman = true → t.regs.wait = ⟨BitVec.ofNat 32 s.cfg.blockDetectionDelay, s.ports.now⟩) ∧
      (s.regs.rstman = false → t.regs.wait.rem = 0#32)

/-- The frame of TICK (R113): `RESULT` and `ERR` keep their values, so does every history entry but the one at `HIDX`, and
so do the parameters, the ports and what the host presents next; the LED stays while the fan runs through an Idle tick,
and a wait that is over stays as it is unless a handler arms it (R129, R132). -/
def Obligations.TickFrame : Prop :=
  ∀ s t : State, exec .tick s = .next t →
    t.regs.result = s.regs.result ∧ t.regs.err = s.regs.err ∧ t.cfg = s.cfg ∧ t.ports = s.ports ∧
    t.pending = s.pending ∧ t.live = s.live ∧ t.powerUps = s.powerUps ∧
    t.regs.hist.length = s.regs.hist.length ∧
    (∀ j : Nat, j ≠ s.regs.hidx → t.regs.hist[j]? = s.regs.hist[j]?) ∧
    (s.regs.fan = true → s.regs.next = .idle → t.regs.led = s.regs.led) ∧
    (s.regs.wait.rem = 0#32 → s.regs.next = .idle ∨ (s.regs.next = .detected ∧ s.regs.fan = false) ∨
      (s.regs.next = .reset ∧ s.regs.rstman = false) → t.regs.wait = s.regs.wait)

/-- One clock sample per tick (R117): after a tick every countdown it advanced or armed has that tick's `NOW` as its
reference. -/
def Obligations.OneClockSamplePerTick : Prop :=
  (∀ s : State, s.regs.wait.rem ≠ 0#32 → ¬ s.regs.TickRuns s.ports.now →
    ∃ t, exec .tick s = .next t ∧ t.regs.wait.ref = s.ports.now) ∧
  ∀ s : State, s.regs.TickRuns s.ports.now → ∃ t, exec .tick s = .next t ∧
    t.regs.trem.ref = s.ports.now ∧ t.regs.frem.ref = s.ports.now ∧ t.regs.sdet.ref = s.ports.now ∧
    t.regs.bmi.ref = s.ports.now ∧ t.regs.idly.ref = s.ports.now ∧
    (s.regs.fan = false → t.regs.blk.ref = s.ports.now) ∧
    (t.regs.wait.rem ≠ 0#32 ∨ s.regs.wait.rem ≠ 0#32 → t.regs.wait.ref = s.ports.now)

/-- R162: the first TICK after reset, for every block and every port value. -/
def Obligations.FirstTickAfterReset : Prop :=
  ∀ (c : Params) (p : Ports) (sp : Nat), c.valid = true → sp = p.s.toNat * (c.iirDen - c.iirNum) / c.iirDen →
    ∃ t, exec .tick { State.reset with regs := Regs.reset c.filterLength, cfg := c, ports := p } = .next t ∧
      t.regs.state = .idle ∧ t.regs.hidx = 1 % c.filterLength ∧
      t.regs.hist = (List.replicate c.filterLength 0#8).set 0 (BitVec.ofNat 8 sp) ∧
      t.regs.det = decide (sp > c.threshMult * c.minThreshold) ∧
      t.regs.dsr = (BitVec.ofBool t.regs.det).setWidth 8 ∧
      t.regs.idly = ⟨BitVec.ofNat 32 c.detectionInterDelay, p.now⟩ ∧
      t.regs.led = true ∧ t.regs.blk = ⟨BitVec.ofNat 32 c.blinkOnTime, p.now⟩ ∧ t.regs.qual = false ∧
      t.regs.next = (if p.m then .activate else .idle)

/-! ## Properties of the whole machine -/

/-- R139, manual activation: from Idle with the fan off and the block not busy, a TICK with the button pressed that
lets no qualified motion through latches Activate; the next TICK turns the relay on and arms the run and the wait; a
TICK once that wait is over finds the block in Idle with the fan running. -/
def Obligations.ManualActivation : Prop :=
  ∀ (s : State) (p2 p3 : Ports), s.cfg.valid = true → s.regs.wait.rem = 0#32 → s.regs.next = .idle →
    s.regs.fan = false → s.ports.m = true → s.cfg.actDebounce ≤ (wsub32 p3.now p2.now).toNat →
    ∃ t1, exec .tick s = .next t1 ∧ t1.regs.relay = s.regs.relay ∧
      (¬ (t1.regs.dsr = 0xFF#8 ∧ t1.regs.sdet.rem = 0#32 ∧ t1.regs.bmi.rem = 0#32) →
        t1.regs.next = .activate ∧
        ∃ t2 t3, exec .tick { t1 with ports := p2 } = .next t2 ∧ t2.regs.relay = true ∧ t2.regs.next = .idle ∧
          t2.regs.frem = ⟨BitVec.ofNat 32 s.cfg.runTime, p2.now⟩ ∧
          t2.regs.wait = ⟨BitVec.ofNat 32 s.cfg.actDebounce, p2.now⟩ ∧
          exec .tick { t2 with ports := p3 } = .next t3 ∧ t3.regs.state = .idle ∧ t3.regs.fan = true ∧
          t3.regs.relay = true ∧ t3.regs.led = true)

/-- R169 (a): when the delay expires in an Idle tick that lets a qualified motion through, Detected wins, and the next
full TICK re-arms the whole delay; the fan is not started. -/
def Obligations.DetectionSupersedesExpiry : Prop :=
  ∀ (s : State) (p2 : Ports), s.regs.TickRuns s.ports.now → s.regs.next = .idle → s.regs.fan = false →
    s.regs.dsr = 0xFF#8 → dec32 s.regs.idly.rem s.regs.idly.ref s.ports.now ≠ 0#32 →
    dec32 s.regs.sdet.rem s.regs.sdet.ref s.ports.now = 0#32 →
    dec32 s.regs.bmi.rem s.regs.bmi.ref s.ports.now = 0#32 →
    s.regs.trem.rem ≠ 0#32 → dec32 s.regs.trem.rem s.regs.trem.ref s.ports.now = 0#32 →
    ∃ t1 t2, exec .tick s = .next t1 ∧ t1.regs.next = .detected ∧ t1.regs.trem.rem = 0#32 ∧
      exec .tick { t1 with ports := p2 } = .next t2 ∧ t2.regs.next = .idle ∧ t2.regs.fan = false ∧
      t2.regs.trem = ⟨BitVec.ofNat 32 s.cfg.delayTime, p2.now⟩

/-- R133: `RELAY` is written by a TICK that commits Activate, Detected or Reset, and by CLR, and by no other command. -/
def Obligations.RelayOwnedByFsm : Prop :=
  ∀ (i : Instr) (s t : State), exec i s = .next t → t.regs.relay ≠ s.regs.relay →
    i = .clr ∨ (i = .tick ∧ s.regs.TickRuns s.ports.now ∧
      ((s.regs.next = .activate ∧ t.regs.relay = true) ∨
       (s.regs.next = .detected ∧ s.regs.fan = true ∧ t.regs.relay = true) ∨
       (s.regs.next = .reset ∧ t.regs.relay = false)))

/-- R103: `HIST`, `HIDX`, `DET` and `DSR` are written only by QSAMPLE, DPUSH, DPUSHD, TICK and CLR; among these the two
pushes write `DSR` alone and QSAMPLE all but `DSR`. -/
def Obligations.QualifierStateOwned : Prop :=
  ∀ (i : Instr) (s t : State), exec i s = .next t → i ≠ .tick → i ≠ .clr →
    (i ≠ .qsample → t.regs.hist = s.regs.hist ∧ t.regs.hidx = s.regs.hidx ∧ t.regs.det = s.regs.det) ∧
    (i ≠ .dpush → i ≠ .dpushd → t.regs.dsr = s.regs.dsr)

/-- R75: a port that a command's row of R68 does not list changes nothing: with any value on it the command gives the
same registers. A busy TICK reads `NOW` alone. -/
def Obligations.UnusedPortsIgnored : Prop :=
  (∀ (i : Instr) (s : State) (q : Ports), (∀ port ∈ portsRead i, s.ports.value port = q.value port) →
    ∃ t, exec i s = .next t ∧ exec i { s with ports := q } = .next { t with ports := q }) ∧
  (∀ (s : State) (q : Ports), s.ports.now = q.now → ¬ s.regs.TickRuns s.ports.now →
    ∃ t, exec .tick s = .next t ∧ exec .tick { s with ports := q } = .next { t with ports := q })

/-- R134: the button is read by the Idle handler only: a TICK that commits another state, or that stays busy, gives the
same registers for either value of `M`. -/
def Obligations.ButtonReadInIdleOnly : Prop :=
  ∀ (s : State) (b : Bool), s.regs.next ≠ .idle ∨ ¬ s.regs.TickRuns s.ports.now →
    ∃ t, exec .tick s = .next t ∧
      exec .tick { s with ports := { s.ports with m := b } } = .next { t with ports := { t.ports with m := b } }

/-- R150: `ERR` is an input to no rule: a step from states that differ in `ERR` alone gives states that differ in `ERR`
alone, or the same stop. -/
def Obligations.ErrIsNoInput : Prop :=
  ∀ (s : State) (b : Bool),
    (∀ t, step s = .next t →
      ∃ t', step { s with regs := s.regs.withErr b } = .next t' ∧
        t' = { t with regs := t.regs.withErr t'.regs.err }) ∧
    (∀ f, step s = .fault f → step { s with regs := s.regs.withErr b } = .fault f)

/-- R48: no behaviour depends on the reference of an expired countdown, and after reset every countdown is expired: two
blocks that differ in such references alone show the same outputs after every run. -/
def Obligations.ExpiredReferencesUnobservable : Prop :=
  (∀ (n : Nat) (q : Regs), { q with
      trem := .zero, frem := .zero, sdet := .zero, bmi := .zero, idly := .zero, blk := .zero, wait := .zero } =
      Regs.reset n →
    q.trem.rem = 0#32 ∧ q.frem.rem = 0#32 ∧ q.sdet.rem = 0#32 ∧ q.bmi.rem = 0#32 ∧ q.idly.rem = 0#32 ∧
      q.blk.rem = 0#32 ∧ q.wait.rem = 0#32 → (Regs.reset n).SameButExpiredRefs q) ∧
  (∀ (n : Nat) (s t : State) (q : Regs), s.regs.SameButExpiredRefs q → Host.Core.run core n s = .next t →
    ∃ q', Host.Core.run core n { s with regs := q } = .next { t with regs := q' } ∧
      t.regs.SameButExpiredRefs q' ∧ t.regs.outputs = q'.outputs)

/-- The shape of the state is an invariant (R35, R36, R42, R51): every step keeps the history's length, the index in range
and the parameters. -/
def Obligations.StepKeepsShape : Prop :=
  ∀ s t : State, s.Wf → step s = .next t → t.Wf ∧ t.cfg = s.cfg

/-- The FSM interlock of R136 (a), (b), (d), (e) and R169 (d) is an invariant of every step of a block that has been
reset, whatever the host does, BLINK and illegal words included. -/
def Obligations.StepKeepsInterlock : Prop :=
  ∀ s t : State, (s.live = true → s.regs.Interlocked) → step s = .next t → (t.live = true → t.regs.Interlocked)

/-- R136 (c): `FAN = 1` implies `LED = 1` is kept by every step but one that runs BLINK. -/
def Obligations.StepKeepsLedHeld : Prop :=
  ∀ s t : State, (s.live = true → s.regs.LedHeld) → (∀ p rest, s.pending ≠ .command 0x06#8 p :: rest) →
    step s = .next t → (t.live = true → t.regs.LedHeld)

/-- Every step keeps each countdown within the duration it is armed with, and `WAIT` within the longer wait (R138); every
step but one that runs BLINK keeps `BLK` within the longest phase of the blink (R33, R107). -/
def Obligations.StepKeepsCountdownBounds : Prop :=
  (∀ s t : State, (s.live = true → s.regs.Bounded s.cfg) → step s = .next t →
    (t.live = true → t.regs.Bounded t.cfg)) ∧
  (∀ s t : State, (s.live = true → s.regs.BlinkBounded s.cfg) →
    (∀ p rest, s.pending ≠ .command 0x06#8 p :: rest) → step s = .next t →
    (t.live = true → t.regs.BlinkBounded t.cfg))

/-- The reset state has the shape and satisfies the invariants. -/
def Obligations.ResetMeetsInvariants : Prop :=
  State.reset.Wf ∧ State.reset.live = true ∧ State.reset.regs.Interlocked ∧ State.reset.regs.LedHeld ∧
  State.reset.regs.Bounded State.reset.cfg ∧ State.reset.regs.BlinkBounded State.reset.cfg

/-- R138: a wait always ends: within the bounds every run keeps, a TICK whose `NOW` is at least the longer wait past
`WAIT_REF` finds the wait over, runs in full, and commits. -/
def Obligations.WaitAlwaysEnds : Prop :=
  ∀ s : State, s.cfg.valid = true → s.regs.Bounded s.cfg →
    max s.cfg.actDebounce s.cfg.blockDetectionDelay ≤ (wsub32 s.ports.now s.regs.wait.ref).toNat →
    s.regs.TickRuns s.ports.now ∧ ∃ t, exec .tick s = .next t ∧ t.regs.state = s.regs.next ∧
      (s.regs.next = .idle ∨ (s.regs.next = .detected ∧ s.regs.fan = false) ∨
        (s.regs.next = .reset ∧ s.regs.rstman = false) → t.regs.busy = false)

/-- R157: no command sequence stops the block: from any state of the right shape, after a reset and while the power
stays on, a run of any length over any commands, illegal words and resets goes on. -/
def Obligations.NoCommandSequenceStopsBlock : Prop :=
  ∀ (n : Nat) (s : State), s.Wf → s.live = true → .powerOn ∉ s.pending → SafeRun n s

/-! ## Outputs -/

/-- The outputs of R44, field by field, for every register file: the codes of `STATE` and `NEXT` (R23, R24), `QUAL` from
`DSR` (R39), `BUSY` from `WAIT` (R34), the other registers as they are; and `ERR` as the cause code (R145). -/
def Obligations.OutputsShowRegisters : Prop :=
  ∀ r : Regs,
    r.outputs.relay = r.relay ∧ r.outputs.led = r.led ∧ r.outputs.fan = r.fan ∧ r.outputs.det = r.det ∧
    r.outputs.err = r.err ∧ r.outputs.evt = r.evt ∧ r.outputs.result = r.result ∧
    r.outputs.state = (match r.state with
      | .idle => 0#2
      | .detected => 1#2
      | .activate => 2#2
      | .reset => 3#2) ∧
    r.outputs.next = (match r.next with
      | .idle => 0#2
      | .detected => 1#2
      | .activate => 2#2
      | .reset => 3#2) ∧
    (r.outputs.qual = true ↔ r.dsr = 0xFF#8) ∧ (r.outputs.busy = true ↔ r.wait.rem ≠ 0#32) ∧
    r.causeCode = (if r.err then 1#1 else 0#1)
end

