-- ==== Sys2Proof/Laws/Config.lean ====
section
/-! SUPPORT. What a valid configuration gives the arithmetic of the qualifier and the countdowns (00_scope.md R8). -/

namespace Sys2Proof

/-- The bounds a valid configuration gives, as propositions about naturals. -/
theorem Params.valid_bounds (c : Params) (h : c.valid = true) :
    c.delayTime < 2 ^ 32 ∧ c.runTime < 2 ^ 32 ∧ c.blockDetectionDelay < 2 ^ 32 ∧ c.detectionInterDelay < 2 ^ 32 ∧
    c.actDebounce < 2 ^ 32 ∧ c.motionBlockTime < 2 ^ 32 ∧ 1 ≤ c.filterLength ∧ c.iirNum ≤ c.iirDen ∧
    1 ≤ c.iirDen := by
  simp only [Params.valid, Params.durationsFit, Params.motionBlockFits, Params.historyNonempty,
    Params.coefficientIsRatio, Params.fits, Bool.and_eq_true, decide_eq_true_eq] at h
  obtain ⟨⟨⟨⟨hd, hm⟩, hn⟩, hr⟩, _⟩ := h
  refine ⟨?_, ?_, ?_, ?_, ?_, hm, hn, hr.1, hr.2⟩ <;> simp only [hd]

/-- The reset history index is in range, and an index of `HIDX`'s width can hold every index (R36). -/
theorem Params.filterLength_le_hidxWidth (c : Params) : c.filterLength ≤ 2 ^ c.hidxWidth := by
  unfold Params.hidxWidth
  split
  · simpa using by assumption
  · have h := Nat.lt_log2_self (n := c.filterLength - 1)
    omega

end Sys2Proof
end

