-- ==== Sys2Proof/Laws/State.lean ====
section
/-! SUPPORT. The small laws of the updates of State: one per field per update, each true by rfl. -/

namespace Sys2Proof.Machine

/-! ## The state around the registers -/

@[simp] theorem State.withRegs_regs (s : State) (r : Regs) : (s.withRegs r).regs = r := rfl
@[simp] theorem State.withRegs_cfg (s : State) (r : Regs) : (s.withRegs r).cfg = s.cfg := rfl
@[simp] theorem State.withRegs_ports (s : State) (r : Regs) : (s.withRegs r).ports = s.ports := rfl
@[simp] theorem State.withRegs_pending (s : State) (r : Regs) : (s.withRegs r).pending = s.pending := rfl
@[simp] theorem State.withRegs_live (s : State) (r : Regs) : (s.withRegs r).live = s.live := rfl
@[simp] theorem State.withRegs_powerUps (s : State) (r : Regs) : (s.withRegs r).powerUps = s.powerUps := rfl

@[simp] theorem resetBlock_regs (s : State) : (resetBlock s).regs = Regs.reset s.cfg.filterLength := rfl
@[simp] theorem resetBlock_cfg (s : State) : (resetBlock s).cfg = s.cfg := rfl
@[simp] theorem resetBlock_ports (s : State) : (resetBlock s).ports = s.ports := rfl
@[simp] theorem resetBlock_pending (s : State) : (resetBlock s).pending = s.pending := rfl
@[simp] theorem resetBlock_live (s : State) : (resetBlock s).live = true := rfl
@[simp] theorem resetBlock_powerUps (s : State) : (resetBlock s).powerUps = s.powerUps := rfl

@[simp] theorem powerOnBlock_cfg (s : State) : (powerOnBlock s).cfg = s.cfg := rfl
@[simp] theorem powerOnBlock_ports (s : State) : (powerOnBlock s).ports = s.ports := rfl
@[simp] theorem powerOnBlock_pending (s : State) : (powerOnBlock s).pending = s.pending := rfl
@[simp] theorem powerOnBlock_live (s : State) : (powerOnBlock s).live = false := rfl
@[simp] theorem powerOnBlock_powerUps (s : State) : (powerOnBlock s).powerUps = s.powerUps + 1 := rfl

theorem raiseIllegalCommand_eq (w : Byte) (s : State) :
    raiseIllegalCommand w s = { s with regs := { s.regs with err := true } } := rfl

/-! ## Countdowns -/

@[simp] theorem Countdown.advance_rem (c : Countdown) (now : Word) : (c.advance now).rem = dec32 c.rem c.ref now := rfl
@[simp] theorem Countdown.advance_ref (c : Countdown) (now : Word) : (c.advance now).ref = now := rfl
@[simp] theorem Countdown.arm_rem (c : Countdown) (d : Word) : (c.arm d).rem = d := rfl
@[simp] theorem Countdown.arm_ref (c : Countdown) (d : Word) : (c.arm d).ref = c.ref := rfl
@[simp] theorem Countdown.clear_rem (c : Countdown) : c.clear.rem = 0#32 := rfl
@[simp] theorem Countdown.clear_ref (c : Countdown) : c.clear.ref = c.ref := rfl
@[simp] theorem Countdown.zero_rem : Countdown.zero.rem = 0#32 := rfl
@[simp] theorem Countdown.zero_ref : Countdown.zero.ref = 0#32 := rfl

/-! ## The registers -/

@[simp] theorem Regs.setResult_state (r : Regs) (v : Word) : (r.setResult v).state = r.state := rfl
@[simp] theorem Regs.setResult_next (r : Regs) (v : Word) : (r.setResult v).next = r.next := rfl
@[simp] theorem Regs.setResult_fan (r : Regs) (v : Word) : (r.setResult v).fan = r.fan := rfl
@[simp] theorem Regs.setResult_relay (r : Regs) (v : Word) : (r.setResult v).relay = r.relay := rfl
@[simp] theorem Regs.setResult_led (r : Regs) (v : Word) : (r.setResult v).led = r.led := rfl
@[simp] theorem Regs.setResult_trem (r : Regs) (v : Word) : (r.setResult v).trem = r.trem := rfl
@[simp] theorem Regs.setResult_frem (r : Regs) (v : Word) : (r.setResult v).frem = r.frem := rfl
@[simp] theorem Regs.setResult_sdet (r : Regs) (v : Word) : (r.setResult v).sdet = r.sdet := rfl
@[simp] theorem Regs.setResult_bmi (r : Regs) (v : Word) : (r.setResult v).bmi = r.bmi := rfl
@[simp] theorem Regs.setResult_idly (r : Regs) (v : Word) : (r.setResult v).idly = r.idly := rfl
@[simp] theorem Regs.setResult_blk (r : Regs) (v : Word) : (r.setResult v).blk = r.blk := rfl
@[simp] theorem Regs.setResult_wait (r : Regs) (v : Word) : (r.setResult v).wait = r.wait := rfl
@[simp] theorem Regs.setResult_hist (r : Regs) (v : Word) : (r.setResult v).hist = r.hist := rfl
@[simp] theorem Regs.setResult_hidx (r : Regs) (v : Word) : (r.setResult v).hidx = r.hidx := rfl
@[simp] theorem Regs.setResult_det (r : Regs) (v : Word) : (r.setResult v).det = r.det := rfl
@[simp] theorem Regs.setResult_dsr (r : Regs) (v : Word) : (r.setResult v).dsr = r.dsr := rfl
@[simp] theorem Regs.setResult_rstman (r : Regs) (v : Word) : (r.setResult v).rstman = r.rstman := rfl
@[simp] theorem Regs.setResult_err (r : Regs) (v : Word) : (r.setResult v).err = r.err := rfl
@[simp] theorem Regs.setResult_evt (r : Regs) (v : Word) : (r.setResult v).evt = r.evt := rfl
@[simp] theorem Regs.setResult_result (r : Regs) (v : Word) : (r.setResult v).result = v := rfl

@[simp] theorem dPush_state (b : Bool) (r : Regs) : (dPush b r).state = r.state := rfl
@[simp] theorem dPush_next (b : Bool) (r : Regs) : (dPush b r).next = r.next := rfl
@[simp] theorem dPush_fan (b : Bool) (r : Regs) : (dPush b r).fan = r.fan := rfl
@[simp] theorem dPush_relay (b : Bool) (r : Regs) : (dPush b r).relay = r.relay := rfl
@[simp] theorem dPush_led (b : Bool) (r : Regs) : (dPush b r).led = r.led := rfl
@[simp] theorem dPush_trem (b : Bool) (r : Regs) : (dPush b r).trem = r.trem := rfl
@[simp] theorem dPush_frem (b : Bool) (r : Regs) : (dPush b r).frem = r.frem := rfl
@[simp] theorem dPush_sdet (b : Bool) (r : Regs) : (dPush b r).sdet = r.sdet := rfl
@[simp] theorem dPush_bmi (b : Bool) (r : Regs) : (dPush b r).bmi = r.bmi := rfl
@[simp] theorem dPush_idly (b : Bool) (r : Regs) : (dPush b r).idly = r.idly := rfl
@[simp] theorem dPush_blk (b : Bool) (r : Regs) : (dPush b r).blk = r.blk := rfl
@[simp] theorem dPush_wait (b : Bool) (r : Regs) : (dPush b r).wait = r.wait := rfl
@[simp] theorem dPush_hist (b : Bool) (r : Regs) : (dPush b r).hist = r.hist := rfl
@[simp] theorem dPush_hidx (b : Bool) (r : Regs) : (dPush b r).hidx = r.hidx := rfl
@[simp] theorem dPush_det (b : Bool) (r : Regs) : (dPush b r).det = r.det := rfl
@[simp] theorem dPush_dsr (b : Bool) (r : Regs) : (dPush b r).dsr = pushBit r.dsr b := rfl
@[simp] theorem dPush_rstman (b : Bool) (r : Regs) : (dPush b r).rstman = r.rstman := rfl
@[simp] theorem dPush_err (b : Bool) (r : Regs) : (dPush b r).err = r.err := rfl
@[simp] theorem dPush_evt (b : Bool) (r : Regs) : (dPush b r).evt = r.evt := rfl
@[simp] theorem dPush_result (b : Bool) (r : Regs) : (dPush b r).result = r.result := rfl

@[simp] theorem storeSample_state (c : Params) (x : Sample) (r : Regs) : (storeSample c x r).state = r.state := rfl
@[simp] theorem storeSample_next (c : Params) (x : Sample) (r : Regs) : (storeSample c x r).next = r.next := rfl
@[simp] theorem storeSample_fan (c : Params) (x : Sample) (r : Regs) : (storeSample c x r).fan = r.fan := rfl
@[simp] theorem storeSample_relay (c : Params) (x : Sample) (r : Regs) : (storeSample c x r).relay = r.relay := rfl
@[simp] theorem storeSample_led (c : Params) (x : Sample) (r : Regs) : (storeSample c x r).led = r.led := rfl
@[simp] theorem storeSample_trem (c : Params) (x : Sample) (r : Regs) : (storeSample c x r).trem = r.trem := rfl
@[simp] theorem storeSample_frem (c : Params) (x : Sample) (r : Regs) : (storeSample c x r).frem = r.frem := rfl
@[simp] theorem storeSample_sdet (c : Params) (x : Sample) (r : Regs) : (storeSample c x r).sdet = r.sdet := rfl
@[simp] theorem storeSample_bmi (c : Params) (x : Sample) (r : Regs) : (storeSample c x r).bmi = r.bmi := rfl
@[simp] theorem storeSample_idly (c : Params) (x : Sample) (r : Regs) : (storeSample c x r).idly = r.idly := rfl
@[simp] theorem storeSample_blk (c : Params) (x : Sample) (r : Regs) : (storeSample c x r).blk = r.blk := rfl
@[simp] theorem storeSample_wait (c : Params) (x : Sample) (r : Regs) : (storeSample c x r).wait = r.wait := rfl
@[simp] theorem storeSample_hist (c : Params) (x : Sample) (r : Regs) : (storeSample c x r).hist = r.hist.set r.hidx x.sp := rfl
@[simp] theorem storeSample_hidx (c : Params) (x : Sample) (r : Regs) : (storeSample c x r).hidx = nextIndex c r.hidx := rfl
@[simp] theorem storeSample_det (c : Params) (x : Sample) (r : Regs) : (storeSample c x r).det = detects c x.sp x.avg := rfl
@[simp] theorem storeSample_dsr (c : Params) (x : Sample) (r : Regs) : (storeSample c x r).dsr = r.dsr := rfl
@[simp] theorem storeSample_rstman (c : Params) (x : Sample) (r : Regs) : (storeSample c x r).rstman = r.rstman := rfl
@[simp] theorem storeSample_err (c : Params) (x : Sample) (r : Regs) : (storeSample c x r).err = r.err := rfl
@[simp] theorem storeSample_evt (c : Params) (x : Sample) (r : Regs) : (storeSample c x r).evt = r.evt := rfl
@[simp] theorem storeSample_result (c : Params) (x : Sample) (r : Regs) : (storeSample c x r).result = r.result := rfl

end Sys2Proof.Machine
end

