-- ==== Sys2Proof/Laws/Ops.lean ====
section
/-! SUPPORT. What the shared operations do: the two timer primitives, the flags, the history store. -/

namespace Sys2Proof.Machine

/-- All that `dec32` can answer: the remaining time less the elapsed time, floored at 0 (40_timer_arith.md R81). -/
theorem dec32_toNat (rem last now : Word) :
    (dec32 rem last now).toNat = rem.toNat - (wsub32 now last).toNat := by
  unfold dec32
  dsimp only
  split
  · rename_i h
    rw [BitVec.toNat_sub_of_le (by rw [BitVec.le_def]; omega)]
  · simp only [BitVec.toNat_ofNat]
    omega

/-- An expired countdown stays expired at every time. -/
@[simp] theorem dec32_zero (last now : Word) : dec32 0#32 last now = 0#32 := by
  apply BitVec.eq_of_toNat_eq
  rw [dec32_toNat]
  simp

/-- An advance never raises a countdown: what bounds it before bounds it after (R82 (a)). -/
theorem dec32_le_of_le (rem last now : Word) (k : Nat) (h : rem.toNat ≤ k) : (dec32 rem last now).toNat ≤ k := by
  rw [dec32_toNat]
  omega

/-- A countdown is never armed with more than the parameter. -/
theorem duration_le (d : Nat) : (duration d).toNat ≤ d := by
  simp only [duration, BitVec.toNat_ofNat]
  exact Nat.mod_le _ _

/-- A flag test on a countdown, as a statement about its remaining time. -/
theorem Countdown.active_iff (c : Countdown) : c.active = true ↔ c.rem ≠ 0#32 := by
  simp [Countdown.active]

theorem Countdown.active_false_iff (c : Countdown) : c.active = false ↔ c.rem = 0#32 := by
  simp [Countdown.active]

theorem Regs.busy_iff (r : Regs) : r.busy = true ↔ r.wait.rem ≠ 0#32 := Countdown.active_iff _

theorem Regs.qual_iff (r : Regs) : r.qual = true ↔ r.dsr = 0xFF#8 := by
  simp [Regs.qual]

/-- The exact sum never exceeds 255 for each entry (R91). -/
theorem histSum_le (h : List Byte) : histSum h ≤ 255 * h.length := by
  induction h with
  | nil => simp [histSum]
  | cons x xs ih =>
    have hx := x.isLt
    simp only [histSum, List.map_cons, List.sum_cons, List.length_cons] at ih ⊢
    omega

/-- The store keeps the history's length (R35, R51). -/
theorem storeSample_hist_length (c : Params) (x : Sample) (r : Regs) :
    (storeSample c x r).hist.length = r.hist.length := by
  simp

/-- The store keeps the index in range, from any index (R36, R52). -/
theorem nextIndex_lt (c : Params) (j : Nat) (h : 1 ≤ c.filterLength) : nextIndex c j < c.filterLength :=
  Nat.mod_lt _ h

/-- One sample (R90): three registers change, and these are their values. -/
theorem qualSample_eq (c : Params) (s : Byte) (r : Regs) :
    qualSample c s r = { r with
      hist := r.hist.set r.hidx (iirBlend c (rollingAverage c r.hist) s)
      hidx := nextIndex c r.hidx
      det := detects c (iirBlend c (rollingAverage c r.hist) s) (rollingAverage c r.hist) } := rfl

end Sys2Proof.Machine
end

