-- ==== Sys2Proof/Laws/Fsm.lean ====
section
/-! SUPPORT. What each phase and handler of a tick can do, said once: the registers it writes, with their values, over
the registers as they stood. A proof cites these equations and does not unfold the phase. -/

namespace Sys2Proof.Machine

/-- `BlinkTick` writes `BLK` and `LED` (42_blink.md R105). -/
theorem blinkTick_eq (c : Params) (period now : Word) (r : Regs) :
    blinkTick c period now r = { r with
      led := if dec32 r.blk.rem r.blk.ref now = 0#32 then !r.led else r.led
      blk := ⟨if dec32 r.blk.rem r.blk.ref now = 0#32 then
        (if r.led then period else duration c.blinkOnTime) else dec32 r.blk.rem r.blk.ref now, now⟩ } := by
  by_cases h : dec32 r.blk.rem r.blk.ref now = 0#32 <;> cases hl : r.led <;>
    simp [blinkTick, Countdown.advance, Countdown.active, Countdown.arm, h, hl]

/-- The paced push writes `IDLY`, and `DSR` when `IDLY` has expired (43_control_fsm.md R118). -/
theorem pacedPush_eq (c : Params) (now : Word) (r : Regs) :
    pacedPush c now r = { r with
      idly := ⟨if dec32 r.idly.rem r.idly.ref now = 0#32 then duration c.detectionInterDelay
        else dec32 r.idly.rem r.idly.ref now, now⟩
      dsr := if dec32 r.idly.rem r.idly.ref now = 0#32 then pushBit r.dsr r.det else r.dsr } := by
  by_cases h : dec32 r.idly.rem r.idly.ref now = 0#32 <;>
    simp [pacedPush, Countdown.advance, Countdown.active, Countdown.arm, dPush, h]

/-- Phase B writes `BLK` and `LED`, and nothing while the fan runs (R120). -/
theorem phaseBlink_eq (c : Params) (now : Word) (r : Regs) :
    phaseBlink c now r = { r with
      led := if r.fan = false ∧ dec32 r.blk.rem r.blk.ref now = 0#32 then !r.led else r.led
      blk := if r.fan then r.blk else
        ⟨if dec32 r.blk.rem r.blk.ref now = 0#32 then
          (if r.led then blinkPeriod c r else duration c.blinkOnTime) else dec32 r.blk.rem r.blk.ref now, now⟩ } := by
  cases hf : r.fan with
  | false => simp [phaseBlink, blinkTick_eq, hf]
  | true =>
    simp only [phaseBlink, hf, ↓reduceIte, Bool.true_eq_false, false_and]
    rw [← hf]

/-- The Idle handler writes `NEXT`, and `RSTMAN` when it latches a Reset (R121 to R125). -/
theorem idleHandler_eq (qual expired m : Bool) (r : Regs) :
    idleHandler qual expired m r = { r with
      next := if detectedGuard qual r then .detected else if resetGuard m r then .reset
        else if activateGuard expired m r then .activate else .idle
      rstman := if !detectedGuard qual r && resetGuard m r then m else r.rstman } := by
  unfold idleHandler
  cases detectedGuard qual r <;> cases resetGuard m r <;> cases activateGuard expired m r <;> rfl

/-- The Detected handler (R126 to R128), with the fan off. -/
theorem detectedHandler_fan_off (c : Params) (now : Word) (r : Regs) (h : r.fan = false) :
    detectedHandler c now r = { r with
      evt := r.evt ||| 0b001#3
      sdet := r.sdet.arm (duration c.blockDetectionDelay)
      trem := r.trem.arm (duration c.delayTime)
      next := .idle } := by
  simp [detectedHandler, detectedCommon, h]

/-- The Detected handler with the fan running: the Activate handler after the common part (R128). -/
theorem detectedHandler_fan_on (c : Params) (now : Word) (r : Regs) (h : r.fan = true) :
    detectedHandler c now r = activateHandler c now (detectedCommon c r) := by
  simp [detectedHandler, detectedCommon, h]

/-- The Reset handler (R131, R132). -/
theorem resetHandler_eq (c : Params) (now : Word) (r : Regs) :
    resetHandler c now r = { r with
      evt := r.evt ||| 0b100#3
      fan := false
      frem := r.frem.clear
      trem := r.trem.clear
      relay := false
      led := false
      bmi := r.bmi.arm (duration c.motionBlockTime)
      next := .idle
      wait := if r.rstman then ⟨duration c.blockDetectionDelay, now⟩ else r.wait
      rstman := false } := rfl

/-- A tick of a block that is not busy runs every phase (R115). -/
theorem tickRegs_idle (c : Params) (p : Ports) (r : Regs) (h : r.wait.rem = 0#32) :
    tickRegs c p r = tickPhases c p r := by
  simp [tickRegs, Regs.busy, Countdown.active, h]

/-- A tick of a busy block whose wait goes on (R115). -/
theorem tickRegs_waiting (c : Params) (p : Ports) (r : Regs)
    (h : dec32 r.wait.rem r.wait.ref p.now ≠ 0#32) :
    tickRegs c p r = { r with wait := r.wait.advance p.now } := by
  have h0 : r.wait.rem ≠ 0#32 := by
    intro hz
    rw [hz, dec32_zero] at h
    exact h rfl
  simp [tickRegs, phaseWait, Regs.busy, Countdown.active, h, h0]

/-- A tick at which the wait ends runs every phase, with `WAIT` at 0 (R115). -/
theorem tickRegs_wait_ends (c : Params) (p : Ports) (r : Regs) (hb : r.wait.rem ≠ 0#32)
    (h : dec32 r.wait.rem r.wait.ref p.now = 0#32) :
    tickRegs c p r = tickPhases c p { r with wait := ⟨0#32, p.now⟩ } := by
  simp [tickRegs, phaseWait, Regs.busy, Countdown.active, Countdown.advance, h, hb]

/-! ## A full tick -/

/-- `WAIT` in a tick that runs in full (R115): untouched if it was 0, else 0 with the tick's time as reference. -/
def endedWait (r : Regs) (now : Word) : Countdown := if r.wait.rem = 0#32 then r.wait else ⟨0#32, now⟩

@[simp] theorem endedWait_rem (r : Regs) (now : Word) : (endedWait r now).rem = 0#32 := by
  unfold endedWait
  split
  · assumption
  · rfl

/-- The registers with which the phases after W start. -/
def afterWait (r : Regs) (now : Word) : Regs := { r with wait := endedWait r now }

@[simp] theorem afterWait_next (r : Regs) (now : Word) : (afterWait r now).next = r.next := rfl
@[simp] theorem afterWait_fan (r : Regs) (now : Word) : (afterWait r now).fan = r.fan := rfl
@[simp] theorem afterWait_relay (r : Regs) (now : Word) : (afterWait r now).relay = r.relay := rfl
@[simp] theorem afterWait_led (r : Regs) (now : Word) : (afterWait r now).led = r.led := rfl
@[simp] theorem afterWait_trem (r : Regs) (now : Word) : (afterWait r now).trem = r.trem := rfl
@[simp] theorem afterWait_frem (r : Regs) (now : Word) : (afterWait r now).frem = r.frem := rfl
@[simp] theorem afterWait_sdet (r : Regs) (now : Word) : (afterWait r now).sdet = r.sdet := rfl
@[simp] theorem afterWait_bmi (r : Regs) (now : Word) : (afterWait r now).bmi = r.bmi := rfl
@[simp] theorem afterWait_idly (r : Regs) (now : Word) : (afterWait r now).idly = r.idly := rfl
@[simp] theorem afterWait_blk (r : Regs) (now : Word) : (afterWait r now).blk = r.blk := rfl
@[simp] theorem afterWait_hist (r : Regs) (now : Word) : (afterWait r now).hist = r.hist := rfl
@[simp] theorem afterWait_hidx (r : Regs) (now : Word) : (afterWait r now).hidx = r.hidx := rfl
@[simp] theorem afterWait_det (r : Regs) (now : Word) : (afterWait r now).det = r.det := rfl
@[simp] theorem afterWait_dsr (r : Regs) (now : Word) : (afterWait r now).dsr = r.dsr := rfl
@[simp] theorem afterWait_rstman (r : Regs) (now : Word) : (afterWait r now).rstman = r.rstman := rfl
@[simp] theorem afterWait_err (r : Regs) (now : Word) : (afterWait r now).err = r.err := rfl
@[simp] theorem afterWait_result (r : Regs) (now : Word) : (afterWait r now).result = r.result := rfl
@[simp] theorem afterWait_wait (r : Regs) (now : Word) : (afterWait r now).wait = endedWait r now := rfl

/-- A tick that runs in full is phases C to H from the ended wait (R115). -/
theorem tickRegs_runs (c : Params) (p : Ports) (r : Regs) (h : dec32 r.wait.rem r.wait.ref p.now = 0#32) :
    tickRegs c p r = tickPhases c p (afterWait r p.now) := by
  by_cases hz : r.wait.rem = 0#32
  · rw [tickRegs_idle _ _ _ hz]
    simp [afterWait, endedWait, hz]
  · rw [tickRegs_wait_ends _ _ _ hz h]
    simp [afterWait, endedWait, hz]

/-- The registers the handler of phase H finds: those after phases C, Q, T and B. -/
def beforeHandler (c : Params) (p : Ports) (r : Regs) : Regs :=
  phaseBlink c p.now (phaseTimers p.now (phaseQualifier c p.now p.s (phaseCommit r)))

section
variable (c : Params) (p : Ports) (r : Regs)

@[simp] theorem beforeHandler_state : (beforeHandler c p r).state = r.next := by
  simp only [beforeHandler, phaseBlink_eq, phaseTimers, phaseQualifier, pacedPush_eq, qualSample_eq, phaseCommit]
@[simp] theorem beforeHandler_next : (beforeHandler c p r).next = r.next := by
  simp only [beforeHandler, phaseBlink_eq, phaseTimers, phaseQualifier, pacedPush_eq, qualSample_eq, phaseCommit]
@[simp] theorem beforeHandler_evt : (beforeHandler c p r).evt = 0#3 := by
  simp only [beforeHandler, phaseBlink_eq, phaseTimers, phaseQualifier, pacedPush_eq, qualSample_eq, phaseCommit]
@[simp] theorem beforeHandler_fan : (beforeHandler c p r).fan = r.fan := by
  simp only [beforeHandler, phaseBlink_eq, phaseTimers, phaseQualifier, pacedPush_eq, qualSample_eq, phaseCommit]
@[simp] theorem beforeHandler_relay : (beforeHandler c p r).relay = r.relay := by
  simp only [beforeHandler, phaseBlink_eq, phaseTimers, phaseQualifier, pacedPush_eq, qualSample_eq, phaseCommit]
@[simp] theorem beforeHandler_err : (beforeHandler c p r).err = r.err := by
  simp only [beforeHandler, phaseBlink_eq, phaseTimers, phaseQualifier, pacedPush_eq, qualSample_eq, phaseCommit]
@[simp] theorem beforeHandler_result : (beforeHandler c p r).result = r.result := by
  simp only [beforeHandler, phaseBlink_eq, phaseTimers, phaseQualifier, pacedPush_eq, qualSample_eq, phaseCommit]
@[simp] theorem beforeHandler_rstman : (beforeHandler c p r).rstman = r.rstman := by
  simp only [beforeHandler, phaseBlink_eq, phaseTimers, phaseQualifier, pacedPush_eq, qualSample_eq, phaseCommit]
@[simp] theorem beforeHandler_wait : (beforeHandler c p r).wait = r.wait := by
  simp only [beforeHandler, phaseBlink_eq, phaseTimers, phaseQualifier, pacedPush_eq, qualSample_eq, phaseCommit]
@[simp] theorem beforeHandler_trem : (beforeHandler c p r).trem = r.trem.advance p.now := by
  simp only [beforeHandler, phaseBlink_eq, phaseTimers, phaseQualifier, pacedPush_eq, qualSample_eq, phaseCommit]
@[simp] theorem beforeHandler_frem : (beforeHandler c p r).frem = r.frem.advance p.now := by
  simp only [beforeHandler, phaseBlink_eq, phaseTimers, phaseQualifier, pacedPush_eq, qualSample_eq, phaseCommit]
@[simp] theorem beforeHandler_sdet : (beforeHandler c p r).sdet = r.sdet.advance p.now := by
  simp only [beforeHandler, phaseBlink_eq, phaseTimers, phaseQualifier, pacedPush_eq, qualSample_eq, phaseCommit]
@[simp] theorem beforeHandler_bmi : (beforeHandler c p r).bmi = r.bmi.advance p.now := by
  simp only [beforeHandler, phaseBlink_eq, phaseTimers, phaseQualifier, pacedPush_eq, qualSample_eq, phaseCommit]
@[simp] theorem beforeHandler_hist : (beforeHandler c p r).hist =
    r.hist.set r.hidx (iirBlend c (rollingAverage c r.hist) p.s) := by
  simp only [beforeHandler, phaseBlink_eq, phaseTimers, phaseQualifier, pacedPush_eq, qualSample_eq, phaseCommit]
@[simp] theorem beforeHandler_hidx : (beforeHandler c p r).hidx = nextIndex c r.hidx := by
  simp only [beforeHandler, phaseBlink_eq, phaseTimers, phaseQualifier, pacedPush_eq, qualSample_eq, phaseCommit]
@[simp] theorem beforeHandler_det : (beforeHandler c p r).det =
    detects c (iirBlend c (rollingAverage c r.hist) p.s) (rollingAverage c r.hist) := by
  simp only [beforeHandler, phaseBlink_eq, phaseTimers, phaseQualifier, pacedPush_eq, qualSample_eq, phaseCommit]
@[simp] theorem beforeHandler_idly : (beforeHandler c p r).idly =
    ⟨if dec32 r.idly.rem r.idly.ref p.now = 0#32 then duration c.detectionInterDelay
      else dec32 r.idly.rem r.idly.ref p.now, p.now⟩ := by
  simp only [beforeHandler, phaseBlink_eq, phaseTimers, phaseQualifier, pacedPush_eq, qualSample_eq, phaseCommit]
@[simp] theorem beforeHandler_dsr : (beforeHandler c p r).dsr =
    if dec32 r.idly.rem r.idly.ref p.now = 0#32 then
      pushBit r.dsr (detects c (iirBlend c (rollingAverage c r.hist) p.s) (rollingAverage c r.hist)) else r.dsr := by
  simp only [beforeHandler, phaseBlink_eq, phaseTimers, phaseQualifier, pacedPush_eq, qualSample_eq, phaseCommit]
@[simp] theorem beforeHandler_led : (beforeHandler c p r).led =
    if r.fan = false ∧ dec32 r.blk.rem r.blk.ref p.now = 0#32 then !r.led else r.led := by
  simp only [beforeHandler, phaseBlink_eq, phaseTimers, phaseQualifier, pacedPush_eq, qualSample_eq, phaseCommit]

theorem beforeHandler_blk : (beforeHandler c p r).blk = if r.fan then r.blk else
    ⟨if dec32 r.blk.rem r.blk.ref p.now = 0#32 then
      (if r.led then
        (if (r.trem.advance p.now).active then duration c.waitingBlinkTime else duration c.heartbeatBlinkTime)
       else duration c.blinkOnTime)
      else dec32 r.blk.rem r.blk.ref p.now, p.now⟩ := by
  simp only [beforeHandler, phaseBlink_eq, phaseTimers, phaseQualifier, pacedPush_eq, qualSample_eq, phaseCommit,
    blinkPeriod]

/-- All that phase B can leave in `BLK` (R105, R107): what stood there, its advance, or one of the three durations. -/
theorem beforeHandler_blk_cases :
    (beforeHandler c p r).blk = r.blk ∨ (beforeHandler c p r).blk.rem = dec32 r.blk.rem r.blk.ref p.now ∨
    (beforeHandler c p r).blk.rem = duration c.blinkOnTime ∨
    (beforeHandler c p r).blk.rem = duration c.waitingBlinkTime ∨
    (beforeHandler c p r).blk.rem = duration c.heartbeatBlinkTime := by
  rw [beforeHandler_blk]
  by_cases hf : r.fan = true
  · exact .inl (if_pos hf)
  · rw [if_neg hf]
    dsimp only
    by_cases hz : dec32 r.blk.rem r.blk.ref p.now = 0#32 <;> by_cases hl : r.led = true <;>
      by_cases ht : (r.trem.advance p.now).active = true <;> simp [hz, hl, ht]

/-- The expiry of the delay in this tick (R119), from the registers the tick starts with. -/
def expires (now : Word) (r : Regs) : Bool := r.trem.active && !(r.trem.advance now).active

/-- Phases C to H are the handler of the committed state on what the phases before it leave (R113, R114). -/
theorem tickPhases_eq : tickPhases c p r =
    phaseHandler c p.now (beforeHandler c p r).qual (expires p.now r) p.m (beforeHandler c p r) := by
  simp only [tickPhases, beforeHandler, delayExpires, expires, Regs.qual, phaseQualifier, pacedPush_eq, qualSample_eq,
    phaseBlink_eq, phaseTimers, phaseCommit]

theorem tickPhases_idle (h : r.next = .idle) : tickPhases c p r =
    idleHandler (beforeHandler c p r).qual (expires p.now r) p.m (beforeHandler c p r) := by
  rw [tickPhases_eq]
  unfold phaseHandler
  rw [beforeHandler_state, h]

theorem tickPhases_detected_fan_off (h : r.next = .detected) (hf : r.fan = false) : tickPhases c p r =
    { beforeHandler c p r with
      evt := (beforeHandler c p r).evt ||| 0b001#3
      sdet := (beforeHandler c p r).sdet.arm (duration c.blockDetectionDelay)
      trem := (beforeHandler c p r).trem.arm (duration c.delayTime)
      next := .idle } := by
  rw [tickPhases_eq]
  unfold phaseHandler
  rw [beforeHandler_state, h]
  dsimp only
  rw [detectedHandler_fan_off _ _ _ (by rw [beforeHandler_fan]; exact hf)]

theorem tickPhases_detected_fan_on (h : r.next = .detected) (hf : r.fan = true) : tickPhases c p r =
    activateHandler c p.now (detectedCommon c (beforeHandler c p r)) := by
  rw [tickPhases_eq]
  unfold phaseHandler
  rw [beforeHandler_state, h]
  dsimp only
  rw [detectedHandler_fan_on _ _ _ (by rw [beforeHandler_fan]; exact hf)]

theorem tickPhases_activate (h : r.next = .activate) : tickPhases c p r =
    activateHandler c p.now (beforeHandler c p r) := by
  rw [tickPhases_eq]
  unfold phaseHandler
  rw [beforeHandler_state, h]

theorem tickPhases_reset (h : r.next = .reset) : tickPhases c p r =
    resetHandler c p.now (beforeHandler c p r) := by
  rw [tickPhases_eq]
  unfold phaseHandler
  rw [beforeHandler_state, h]

end

/-- What no handler writes, and the references it leaves (R121 to R132). -/
theorem phaseHandler_keeps (c : Params) (now : Word) (qual expired m : Bool) (r : Regs) :
    let t := phaseHandler c now qual expired m r
    (t.state = r.state ∧ t.hist = r.hist ∧ t.hidx = r.hidx ∧ t.det = r.det ∧ t.dsr = r.dsr ∧ t.idly = r.idly ∧
      t.blk = r.blk ∧ t.err = r.err ∧ t.result = r.result) ∧
    (t.trem.ref = r.trem.ref ∧ t.frem.ref = r.frem.ref ∧ t.sdet.ref = r.sdet.ref ∧ t.bmi.ref = r.bmi.ref ∧
      (t.wait = r.wait ∨ t.wait.ref = now)) := by
  unfold phaseHandler
  dsimp only
  split
  · rw [idleHandler_eq]
    simp
  · cases hf : r.fan
    · rw [detectedHandler_fan_off _ _ _ hf]
      simp
    · rw [detectedHandler_fan_on _ _ _ hf]
      simp [activateHandler, detectedCommon]
  · simp [activateHandler]
  · simp only [resetHandler_eq]
    cases hm : r.rstman <;> simp

end Sys2Proof.Machine
end

