-- ==== Sys2Proof/Laws/PerInstr.lean ====
section
/-! SUPPORT. What is said of every command as syntax: its word has format C (30_encoding.md R66, R79). -/

namespace Sys2Proof.Laws.FormatC

/-- The word's reserved bits are 0000, its `op` field is the command's opcode, and the opcode is at most 8. -/
def Statement (i : Instr) : Prop :=
  fieldRsv (encode i) = 0#4 ∧ fieldOp (encode i) = i.opcode ∧ i.opcode.toNat ≤ 8

theorem nop : Statement .nop := ⟨by decide, by decide, by decide⟩
theorem wsub : Statement .wsub := ⟨by decide, by decide, by decide⟩
theorem tdec : Statement .tdec := ⟨by decide, by decide, by decide⟩
theorem qsample : Statement .qsample := ⟨by decide, by decide, by decide⟩
theorem dpush : Statement .dpush := ⟨by decide, by decide, by decide⟩
theorem dpushd : Statement .dpushd := ⟨by decide, by decide, by decide⟩
theorem blink : Statement .blink := ⟨by decide, by decide, by decide⟩
theorem tick : Statement .tick := ⟨by decide, by decide, by decide⟩
theorem clr : Statement .clr := ⟨by decide, by decide, by decide⟩

end Sys2Proof.Laws.FormatC
end

