-- ==== Sys2Proof/Laws/Step.lean ====
section
/-! SUPPORT. What a command and a step can do, said once. -/

namespace Sys2Proof.Machine

/-- A command changes the registers alone; only CLR also ends the state before the first reset. -/
theorem exec_frame {i : Instr} {s t : State} (h : exec i s = .next t) :
    t.cfg = s.cfg ∧ t.ports = s.ports ∧ t.pending = s.pending ∧ t.powerUps = s.powerUps ∧
    (i ≠ .clr → t.live = s.live) := by
  cases i <;>
    simp only [exec, execNop, execWsub, execTdec, execQsample, execDpush, execDpushd, execBlink, execTick, execClr,
      Host.Outcome.next.injEq] at h <;> subst h <;> simp

/-- A TICK that runs in full (R115), over the registers. -/
theorem exec_tick_runs (s : State) (h : dec32 s.regs.wait.rem s.regs.wait.ref s.ports.now = 0#32) :
    exec .tick s = .next { s with regs := tickPhases s.cfg s.ports (afterWait s.regs s.ports.now) } := by
  simp only [exec, execTick, State.withRegs, tickRegs_runs _ _ _ h]

/-- A TICK that stays busy (R115). -/
theorem exec_tick_waiting (s : State) (h : dec32 s.regs.wait.rem s.regs.wait.ref s.ports.now ≠ 0#32) :
    exec .tick s = .next { s with regs := { s.regs with wait := s.regs.wait.advance s.ports.now } } := by
  simp only [exec, execTick, State.withRegs, tickRegs_waiting _ _ _ h]

/-- Everything a step that goes on can be: the block waited, ran a command, met an illegal word, or was reset or powered
on. -/
theorem step_next_cases {s t : State} (h : step s = .next t) :
    s.cfg.valid = true ∧
    ((s.pending = [] ∧ t = s) ∨
     (∃ w p rest i, s.pending = .command w p :: rest ∧ accepts s.live w = true ∧ decode w = .ok i ∧
        exec i { s with ports := p, pending := rest } = .next t) ∨
     (∃ w p rest e, s.pending = .command w p :: rest ∧ accepts s.live w = true ∧ decode w = .error e ∧
        t = raiseIllegalCommand w { s with ports := p, pending := rest }) ∨
     (∃ rest, s.pending = .rst :: rest ∧ t = resetBlock { s with pending := rest }) ∨
     (∃ rest, s.pending = .powerOn :: rest ∧ t = powerOnBlock { s with pending := rest })) := by
  unfold step at h
  split at h
  case isFalse => cases h
  case isTrue hv =>
    refine ⟨hv, ?_⟩
    unfold acceptNext at h
    cases hp : s.pending with
    | nil =>
      rw [hp] at h
      exact .inl ⟨rfl, (Host.Outcome.next.inj h).symm⟩
    | cons e rest =>
      rw [hp] at h
      cases e with
      | command w p =>
        simp only [acceptEvent, acceptCommand] at h
        split at h
        case isFalse => cases h
        case isTrue ha =>
          unfold runWord at h
          cases hd : decode w with
          | ok i =>
            rw [hd] at h
            exact .inr (.inl ⟨w, p, rest, i, rfl, ha, hd, h⟩)
          | error er =>
            rw [hd] at h
            exact .inr (.inr (.inl ⟨w, p, rest, er, rfl, ha, hd, (Host.Outcome.next.inj h).symm⟩))
      | rst => exact .inr (.inr (.inr (.inl ⟨rest, rfl, (Host.Outcome.next.inj h).symm⟩)))
      | powerOn => exact .inr (.inr (.inr (.inr ⟨rest, rfl, (Host.Outcome.next.inj h).symm⟩)))

end Sys2Proof.Machine
end

