-- ==== Sys2Proof/Tests/Slice0.lean ====
section
/-! SUPPORT. The model's own tests. Expected values come from the vectors TA, QA, QD, BL, TK, HK and the programs P1, P2
of spec/95_test_vectors.md, which the spec computed by hand from its rules, and from the opcode map R68. Then one
witness for every obligation with hypotheses. -/

namespace Sys2Proof.Tests

open Sys2Proof.Machine

/-! ## Helpers -/

/-- A reading of the next state; none where the machine stopped. -/
def after {α : Type} (o : Host.Outcome State Fault Refusal) (f : State → α) : Option α :=
  match o with
  | .next s => some (f s)
  | .fault _ => none
  | .refused _ => none

/-- The fault a machine stopped with. -/
def faultOf (o : Host.Outcome State Fault Refusal) : Option Fault :=
  match o with
  | .next _ => none
  | .fault f => some f
  | .refused _ => none

/-- The refusal a machine stopped with. -/
def refusalOf (o : Host.Outcome State Fault Refusal) : Option Refusal :=
  match o with
  | .next _ => none
  | .fault _ => none
  | .refused f => some f

/-- The registers after reset, at the default parameters. -/
def r0 : Regs := Regs.reset 10

/-- The default block holding the registers `r`, with `p` on its ports. -/
def block (r : Regs) (p : Ports) : State := { State.reset with regs := r, ports := p }

/-- The default block after reset, to which the host presents `es`. -/
def presenting (es : List HostEvent) : State := { State.reset with pending := es }

/-- Port values, the ports a command reads; the others 0. -/
def timed (a b now : Word) : Ports := { Ports.zero with a := a, b := b, now := now }

/-- The ports of a TICK. -/
def tickPorts (now : Word) (s : Byte) (m : Bool) : Ports := { Ports.zero with now := now, s := s, m := m }

/-! ## Well-formedness: one ill-formed configuration per check of R8, refused by the step -/

def longRun : Params := { Params.default with runTime := 2 ^ 32 }
def longMotionBlock : Params := { Params.default with motionBlockMult := 1432 }
def noHistory : Params := { Params.default with filterLength := 0 }
def bigCoefficient : Params := { Params.default with iirNum := 6 }
def noDenominator : Params := { Params.default with iirNum := 0, iirDen := 0 }
def wideDebounce : Params := { Params.default with debounceWidth := 9 }

theorem test_default_valid : Params.default.valid = true := by decide
theorem test_duration_refused : longRun.durationsFit = false ∧ longRun.valid = false := by decide
theorem test_motion_block_refused : longMotionBlock.motionBlockFits = false ∧ longMotionBlock.valid = false := by decide
theorem test_history_refused : noHistory.historyNonempty = false ∧ noHistory.valid = false := by decide
theorem test_coefficient_refused : bigCoefficient.coefficientIsRatio = false ∧ bigCoefficient.valid = false := by decide
theorem test_denominator_refused : noDenominator.coefficientIsRatio = false ∧ noDenominator.valid = false := by decide
theorem test_debounce_refused : wideDebounce.debounceIsByte = false ∧ wideDebounce.valid = false := by decide
theorem test_step_refuses_configuration :
    ([longRun, longMotionBlock, noHistory, bigCoefficient, noDenominator, wideDebounce].map fun c =>
      refusalOf (step { State.reset with cfg := c })) = List.replicate 6 (some .badConfiguration) := by decide
/-- `HIDX` is 4 bits wide at N = 10 (R36). -/
theorem test_hidx_width : Params.default.hidxWidth = 4 := rfl

/-! ## Decoding: every command's word written out from R66 and R68, and the reserved words R70, R71 -/

theorem test_decode_nop : decode 0b00000000#8 = .ok .nop := by decide
theorem test_decode_wsub : decode 0b00000001#8 = .ok .wsub := by decide
theorem test_decode_tdec : decode 0b00000010#8 = .ok .tdec := by decide
theorem test_decode_qsample : decode 0b00000011#8 = .ok .qsample := by decide
theorem test_decode_dpush : decode 0b00000100#8 = .ok .dpush := by decide
theorem test_decode_dpushd : decode 0b00000101#8 = .ok .dpushd := by decide
theorem test_decode_blink : decode 0b00000110#8 = .ok .blink := by decide
theorem test_decode_tick : decode 0b00000111#8 = .ok .tick := by decide
theorem test_decode_clr : decode 0b00001000#8 = .ok .clr := by decide
theorem test_decode_first_reserved_opcode : decode 0b00001001#8 = .error .reservedOpcode := by decide
theorem test_decode_last_reserved_opcode : decode 0b00001111#8 = .error .reservedOpcode := by decide
theorem test_decode_reserved_bit_4 : decode 0b00010111#8 = .error .reservedBits := by decide
theorem test_decode_reserved_bit_7 : decode 0b10000000#8 = .error .reservedBits := by decide
/-- `.word 0x1F` is illegal for its reserved bits, which are tested first (R69). -/
theorem test_decode_reserved_bits_first : decode 0x1F#8 = .error .reservedBits := by decide
theorem test_table_word : decodeTableWord 8 7 = some .tick ∧ decodeTableWord 8 9 = none ∧ decodeTableWord 16 7 = none := by
  decide

/-! ## One or two vectors per command -/

/-- HK1: NOP. -/
theorem test_nop : after (exec .nop (block { r0 with result := 7#32 } Ports.zero)) State.regs =
    some { r0 with result := 7#32 } := by decide
/-- TA7: the elapsed time across the wrap. -/
theorem test_wsub_wraps : after (exec .wsub (block r0 (timed 100#32 0xFFFFFFF0#32 0x10#32))) State.regs =
    some { r0 with result := 0x20#32 } := by decide
/-- TA11: `NOW` one less than `B`. -/
theorem test_wsub_backward : after (exec .wsub (block r0 (timed 5#32 10#32 9#32))) (fun s => s.regs.result) =
    some 0xFFFFFFFF#32 := by decide
/-- TA7: the decrement across the wrap. -/
theorem test_tdec_wraps : after (exec .tdec (block r0 (timed 100#32 0xFFFFFFF0#32 0x10#32))) State.regs =
    some { r0 with result := 68#32 } := by decide
/-- TA3, TA10: the comparison is strict, and unsigned. -/
theorem test_tdec_strict :
    after (exec .tdec (block r0 (timed 100#32 0#32 100#32))) (fun s => s.regs.result) = some 0#32 ∧
    after (exec .tdec (block r0 (timed 0xFFFFFFFF#32 0#32 0xFFFFFFFE#32))) (fun s => s.regs.result) = some 1#32 := by
  decide
/-- QA2: from the state QA1 leaves. -/
theorem test_qsample : after (exec .qsample
      (block { r0 with hist := r0.hist.set 0 60#8, hidx := 1 } { Ports.zero with s := 200#8 })) State.regs =
    some { r0 with hist := (r0.hist.set 0 60#8).set 1 122#8, hidx := 2, det := true, result := 0x1067A#32 } := by decide
/-- QA5: a constant stream; QA7: the index wraps after entry 9. -/
theorem test_qsample_constant_and_wrap : after (exec .qsample
      (block { r0 with hist := List.replicate 10 50#8, hidx := 9 } { Ports.zero with s := 50#8 })) State.regs =
    some { r0 with hist := List.replicate 10 50#8, hidx := 0, result := 0x3232#32 } := by decide
/-- QD4: the eighth 1 qualifies. -/
theorem test_dpush_qualifies : after (exec .dpush (block { r0 with dsr := 0x7F#8 } (timed 1#32 0#32 0#32)))
      (fun s => (s.regs.dsr, s.regs.qual, s.regs.result)) = some (0xFF#8, true, 0xFF#32) := by decide
/-- P2: `DPUSH A=2` pushes `A[0]` = 0. -/
theorem test_dpush_reads_one_bit : after (exec .dpush (block { r0 with dsr := 0x7F#8 } (timed 2#32 0#32 0#32)))
      State.regs = some { r0 with dsr := 0xFE#8, result := 0xFE#32 } := by decide
/-- QD6: DPUSHD pushes `DET`, whatever stands on `A`. -/
theorem test_dpushd : after (exec .dpushd (block { r0 with det := true } Ports.zero)) State.regs =
    some { r0 with det := true, dsr := 1#8, result := 1#32 } := by decide
/-- BL1 and BL3: ON for `BLINK_ON_TIME`, then OFF for the period. -/
theorem test_blink_toggles :
    after (exec .blink (block r0 (timed 5000000#32 0#32 0#32))) State.regs =
      some { r0 with led := true, blk := ⟨100000#32, 0#32⟩, result := 100000#32 } ∧
    after (exec .blink (block { r0 with led := true, blk := ⟨50000#32, 50000#32⟩ } (timed 5000000#32 0#32 100000#32)))
      State.regs = some { r0 with blk := ⟨5000000#32, 100000#32⟩, result := 5000000#32 } := by decide
/-- BL9 and BL10: across the wrap, and whatever `FAN` is. -/
theorem test_blink_wrap_and_fan :
    after (exec .blink (block { r0 with led := true, blk := ⟨100#32, 0xFFFFFFC0#32⟩ } (timed 7#32 0#32 0x10#32)))
      State.regs = some { r0 with led := true, blk := ⟨20#32, 0x10#32⟩, result := 20#32 } ∧
    after (exec .blink (block { r0 with fan := true, led := true } (timed 5000000#32 0#32 0#32)))
      (fun s => (s.regs.led, s.regs.blk.rem)) = some (false, 5000000#32) := by decide
/-- TK11: Detected with the fan running chains into Activate in the same tick. -/
theorem test_tick_chains : after (exec .tick (block
      { r0 with next := .detected, fan := true, relay := true, led := true, frem := ⟨1000#32, 0#32⟩, idly := ⟨50000#32, 0#32⟩ }
      Ports.zero)) State.regs =
    some { r0 with state := .detected, fan := true, relay := true, led := true, frem := ⟨480000000#32, 0#32⟩, sdet := ⟨3000000#32, 0#32⟩, idly := ⟨50000#32, 0#32⟩, wait := ⟨350000#32, 0#32⟩, evt := 3#3, hidx := 1 } := by decide
/-- TK14 and TK16: a busy tick changes `WAIT` alone; Detected wins over the expiry of the same tick. -/
theorem test_tick_busy_and_priority :
    after (exec .tick (block { r0 with wait := ⟨100#32, 0#32⟩, next := .activate, evt := 4#3 } (tickPorts 50#32 255#8 true)))
      State.regs = some { r0 with wait := ⟨50#32, 50#32⟩, next := .activate, evt := 4#3 } ∧
    after (exec .tick (block { r0 with dsr := 0xFF#8, idly := ⟨50000#32, 0#32⟩, trem := ⟨10#32, 0#32⟩, blk := ⟨50000#32, 0#32⟩ }
      (tickPorts 10#32 0#8 false))) (fun s => (s.regs.next, s.regs.trem.rem, s.regs.idly.rem, s.regs.blk.rem)) =
      some (.detected, 0#32, 49990#32, 49990#32) := by decide
/-- HK2: CLR, from a busy block with `ERR` set. -/
theorem test_clr : after (exec .clr (block { r0 with err := true, wait := ⟨9#32, 4#32⟩, fan := true, hidx := 3 } Ports.zero))
    State.regs = some r0 := by decide

/-! ## The step and the host's events -/

/-- HK4: the word 0x18 raises `IllegalCommand` and no tick runs. -/
theorem test_illegal_word : after (step (presenting [.command 0x18#8 (tickPorts 5#32 0#8 false)])) State.regs =
    some { r0 with err := true } := by decide
/-- A word placed as the next one runs as the first command after reset. -/
theorem test_fetch_word : after (step (State.reset.withFetchWord 8 7)) (fun s => (s.regs, s.pending)) =
    some ({ r0 with led := true, idly := ⟨100000#32, 0#32⟩, blk := ⟨100000#32, 0#32⟩, hidx := 1 }, []) := by decide
/-- R49: before the first reset NOP is not accepted; CLR and `RST` end that state. -/
theorem test_before_reset :
    faultOf (step { presenting [.command 0x00#8 Ports.zero] with live := false }) = some .notReset ∧
    after (step { presenting [.command 0x08#8 Ports.zero] with live := false }) State.live = some true ∧
    after (step { presenting [.rst] with live := false }) State.live = some true := by decide
/-- R57: with nothing presented the block waits. -/
theorem test_waits : after (step State.reset) id = some State.reset := by decide

/-! ## The assembler (R77, R78) -/

/-- Lines of P1, with a comment, an empty line and an illegal word. -/
def listing1 : List Char := "CLR ; 0x08\n\nWSUB B=0xFFFFFFF0, NOW=0x10\n.word 0x1F\nNOP".toList

theorem test_assemble_listing : (assemble listing1).toOption = some
    [.command 0x08#8 Ports.zero, .command 0x01#8 (timed 0#32 0xFFFFFFF0#32 0x10#32), .command 0x1F#8 Ports.zero,
     .command 0x00#8 Ports.zero] := by decide

/-- `REPEAT 2` over `TICK NOW=10+k*100, S=255`; the braces are characters 123 and 125. -/
def listing2 : List Char :=
  "REPEAT 2 ".toList ++ [openBrace] ++ "\nTICK NOW=10+k*100, S=255\n".toList ++ [closeBrace]

theorem test_assemble_repeat : (assemble listing2).toOption = some
    [.command 0x07#8 (tickPorts 10#32 255#8 false), .command 0x07#8 (tickPorts 110#32 255#8 false)] := by decide

theorem test_assemble_rejects :
    (match assemble "QSAMPLE A=1".toList with | .error e => some e | .ok _ => none) = some .portNotRead ∧
    (match assemble "QSAMPLE S=256".toList with | .error e => some e | .ok _ => none) = some .valueTooWide ∧
    (match assemble "STOP".toList with | .error e => some e | .ok _ => none) = some .unknownMnemonic := by decide

/-! ## Witnesses: states and operands that meet the hypotheses of each obligation -/

/-- Every command goes on from the reset state. -/
theorem exec_from_reset (i : Instr) : ∃ t, exec i State.reset = .next t := by cases i <;> exact ⟨_, rfl⟩

/-- Every command presented to the block after reset runs. -/
theorem step_presenting (i : Instr) : ∃ t, step (presenting [.command (encode i) Ports.zero]) = .next t := by
  cases i <;> exact ⟨_, rfl⟩

theorem witness_ExactlyNineWordsLegal :
    ((0x08#8 : Byte).toNat ≤ 8) ∧ (fieldRsv 0x10#8 ≠ 0#4 ∧ fieldRsv 0x1F#8 ≠ 0#4) ∧
    (fieldRsv 0x09#8 = 0#4 ∧ 8 < (fieldOp 0x09#8).toNat) ∧ (fieldRsv 0x0F#8 = 0#4 ∧ 8 < (fieldOp 0x0F#8).toNat) := by
  decide

theorem witness_DecodeEncodeAgree : Instr.tick.wellFormed = true ∧ decode 0x07#8 = .ok .tick := by decide

theorem witness_StepRunsDecodedCommand : ∃ (s : State) (w : Byte) (p : Ports) (rest : List HostEvent) (i : Instr),
    s.cfg.valid = true ∧ s.live = true ∧ s.pending = .command w p :: rest ∧ decode w = .ok i :=
  ⟨presenting [.command 0x07#8 (tickPorts 5#32 1#8 true), .rst], 0x07#8, tickPorts 5#32 1#8 true, [.rst], .tick, by decide⟩

theorem witness_StepRunsFetchedWord : State.reset.cfg.valid = true := by decide

theorem witness_IllegalWordSetsErrOnly_raise : ∃ (s : State) (w : Byte) (p : Ports) (rest : List HostEvent),
    s.cfg.valid = true ∧ s.live = true ∧ s.pending = .command w p :: rest ∧ 8 < w.toNat :=
  ⟨presenting [.command 0x09#8 Ports.zero], 0x09#8, Ports.zero, [], by decide⟩

theorem witness_IllegalWordSetsErrOnly_sticky : ∃ s t : State, s.live = true ∧ s.regs.err = true ∧ step s = .next t ∧
    (∀ p rest, s.pending ≠ .command 0x08#8 p :: rest) ∧ (∀ rest, s.pending ≠ .rst :: rest) ∧
    (∀ rest, s.pending ≠ .powerOn :: rest) :=
  ⟨{ presenting [.command 0x00#8 Ports.zero] with regs := { r0 with err := true } }, _, rfl, rfl, rfl,
    fun p rest h => absurd (HostEvent.command.inj (List.cons.inj h).1).1 (by decide),
    fun rest h => HostEvent.noConfusion (List.cons.inj h).1, fun rest h => HostEvent.noConfusion (List.cons.inj h).1⟩

/-- Both sides of the equivalence are met: a refused configuration and an admitted one. -/
theorem witness_BadConfigurationRefused :
    ¬ (longRun.runTime < 2 ^ 32) ∧ refusalOf (step { State.reset with cfg := longRun }) = some .badConfiguration ∧
    refusalOf (step State.reset) = none := by decide

theorem witness_NoCommandBeforeReset_command : ∃ (s : State) (w : Byte) (p : Ports) (rest : List HostEvent),
    s.cfg.valid = true ∧ s.live = false ∧ s.pending = .command w p :: rest ∧ w ≠ 0x08#8 :=
  ⟨{ presenting [.command 0x07#8 Ports.zero] with live := false }, 0x07#8, Ports.zero, [], by decide⟩

theorem witness_NoCommandBeforeReset_power : ∃ (s : State) (rest : List HostEvent),
    s.cfg.valid = true ∧ s.pending = .powerOn :: rest := ⟨presenting [.powerOn, .rst], [.rst], by decide⟩

theorem witness_ResetSourcesAgree :
    (∃ (s : State) (p : Ports) (rest : List HostEvent),
      s.cfg.valid = true ∧ s.pending = .command 0x08#8 p :: rest) ∧
    (∃ (s : State) (rest : List HostEvent), s.cfg.valid = true ∧ s.pending = .rst :: rest) ∧
    (∃ (s : State) (rest : List HostEvent), s.cfg.valid = true ∧ s.pending = .powerOn :: .rst :: rest) ∧
    (∃ (s : State) (p : Ports) (rest : List HostEvent),
      s.cfg.valid = true ∧ s.pending = .powerOn :: .command 0x08#8 p :: rest) ∧
    (∃ s : State, s.cfg.valid = true ∧ s.pending = []) :=
  ⟨⟨presenting [.command 0x08#8 Ports.zero], Ports.zero, [], by decide⟩, ⟨presenting [.rst], [], by decide⟩,
    ⟨presenting [.powerOn, .rst], [], by decide⟩,
    ⟨presenting [.powerOn, .command 0x08#8 Ports.zero], Ports.zero, [], by decide⟩, ⟨State.reset, by decide⟩⟩

theorem witness_ResetRegisterValues :
    (∃ (s : State) (rest : List HostEvent), s.cfg.valid = true ∧ s.pending = .rst :: rest ∧ s.regs.err = true) ∧
    (∃ (s : State) (p : Ports) (rest : List HostEvent),
      s.cfg.valid = true ∧ s.pending = .command 0x08#8 p :: rest ∧ s.regs.err = true) :=
  ⟨⟨{ presenting [.rst] with regs := { r0 with err := true } }, [], by decide⟩,
    ⟨{ presenting [.command 0x08#8 Ports.zero] with regs := { r0 with err := true } }, Ports.zero, [], by decide⟩⟩

theorem witness_ClrResetsEveryRegister : ∃ (i : Instr) (s t : State), i ≠ .clr ∧ exec i s = .next t :=
  (exec_from_reset .tick).elim fun t h => ⟨.tick, State.reset, t, by decide, h⟩

theorem witness_TdecResult : ∃ (s : State) (elapsed : Nat),
    elapsed = (s.ports.now.toNat + 2 ^ 32 - s.ports.b.toNat) % 2 ^ 32 ∧ elapsed < s.ports.a.toNat :=
  ⟨block r0 (timed 100#32 0xFFFFFFF0#32 0x10#32), 32, by decide⟩

theorem witness_CountdownAdvancesTelescope :
    (∃ e1 e2 : Nat, e1 + e2 < 2 ^ 32 ∧ e1 + e2 = 2 ^ 32 - 1) ∧ ∃ es : List Nat, es.sum < 2 ^ 32 ∧ es.length = 3 :=
  ⟨⟨1, 2 ^ 32 - 2, by decide⟩, ⟨[32, 64, 4], by decide⟩⟩

theorem witness_BackwardClockExpiresCountdown : ∃ (c : Countdown) (d : Nat),
    0 < d ∧ d < 2 ^ 32 ∧ c.rem.toNat ≤ 2 ^ 32 - d ∧ c.active = true :=
  ⟨⟨0xFFFFFFFF#32, 0#32⟩, 1, by decide⟩

theorem witness_QsampleResult : ∃ (s : State) (avg sp : Nat) (det : Bool), s.Wf ∧
    avg = (s.regs.hist.map BitVec.toNat).sum / s.cfg.filterLength ∧
    sp = (avg * s.cfg.iirNum + s.ports.s.toNat * (s.cfg.iirDen - s.cfg.iirNum)) / s.cfg.iirDen ∧
    det = decide (sp > s.cfg.threshMult * max s.cfg.minThreshold avg) :=
  ⟨block r0 { Ports.zero with s := 255#8 }, 0, 153, true, by decide⟩

theorem witness_DpushResult : ∃ (s : State) (d : Nat), d = (2 * s.regs.dsr.toNat + s.ports.a.toNat % 2) % 256 :=
  ⟨block { r0 with dsr := 0xFF#8 } (timed 3#32 0#32 0#32), 255, by decide⟩

theorem witness_DpushdResult : ∃ (s : State) (d : Nat), d = (2 * s.regs.dsr.toNat + s.regs.det.toNat) % 256 :=
  ⟨block { r0 with dsr := 0xFF#8, det := true } Ports.zero, 255, by decide⟩

theorem witness_OnePushOfZeroCostsEight :
    (∃ (s : State) (bs : List Bool) (rest : List HostEvent), s.cfg.valid = true ∧ s.live = true ∧ bs.length ≤ 7 ∧
      s.pending = pushAll (false :: bs) ++ rest ∧ bs = List.replicate 7 true) ∧
    (∃ (s : State) (rest : List HostEvent), s.cfg.valid = true ∧ s.live = true ∧
      s.pending = pushAll (List.replicate 8 true) ++ rest) ∧
    (∃ (s : State) (bs : List Bool) (rest : List HostEvent), s.cfg.valid = true ∧ s.live = true ∧
      s.regs.dsr = 0x00#8 ∧ bs.length ≤ 8 ∧ s.pending = pushAll bs ++ rest ∧ bs = List.replicate 7 true) :=
  ⟨⟨presenting (pushAll (false :: List.replicate 7 true)), List.replicate 7 true, [], by decide⟩,
    ⟨presenting (pushAll (List.replicate 8 true)), [], by decide⟩,
    ⟨presenting (pushAll (List.replicate 7 true)), List.replicate 7 true, [], by decide⟩⟩

/-- The common hypotheses with each clause's own: the sample at the average, a detection, an average of 64, and an
average of 0 with the samples 134 and 135. -/
theorem witness_DetectionThresholds :
    (∃ s t : State, s.Wf ∧ s.cfg = Params.default ∧ exec .qsample s = .next t ∧
      s.ports.s.toNat = (s.regs.hist.map BitVec.toNat).sum / 10 ∧ s.regs.hidx = 9) ∧
    (∃ s t : State, s.Wf ∧ s.cfg = Params.default ∧ exec .qsample s = .next t ∧ t.regs.det = true ∧
      0 = (s.regs.hist.map BitVec.toNat).sum / 10 ∧ s.ports.s.toNat = 135) ∧
    (∃ s t : State, s.Wf ∧ s.cfg = Params.default ∧ exec .qsample s = .next t ∧
      64 ≤ (s.regs.hist.map BitVec.toNat).sum / 10 ∧ s.ports.s.toNat = 255) ∧
    (∃ s t : State, s.Wf ∧ s.cfg = Params.default ∧ exec .qsample s = .next t ∧ t.regs.det = false ∧
      0 = (s.regs.hist.map BitVec.toNat).sum / 10 ∧ s.ports.s.toNat = 134) :=
  ⟨⟨block { r0 with hist := List.replicate 10 50#8, hidx := 9 } { Ports.zero with s := 50#8 }, _, by decide, rfl, rfl,
      by decide⟩,
    ⟨block r0 { Ports.zero with s := 135#8 }, _, by decide, rfl, rfl, by decide⟩,
    ⟨block { r0 with hist := List.replicate 10 64#8 } { Ports.zero with s := 255#8 }, _, by decide, rfl, rfl, by decide⟩,
    ⟨block r0 { Ports.zero with s := 134#8 }, _, by decide, rfl, rfl, by decide⟩⟩

theorem witness_OnePushPerSampleNeverQualifies : ∃ (s : State) (xs : List Byte) (rest : List HostEvent),
    s.Wf ∧ s.live = true ∧ s.cfg = Params.default ∧ xs.length = 8 ∧ s.pending = sampleAndPush xs ++ rest :=
  ⟨presenting (sampleAndPush (List.replicate 8 255#8)), List.replicate 8 255#8, [], by decide⟩

/-- The three clauses of BLINK: mid-phase, the end of an OFF phase, the end of an ON phase. -/
theorem witness_BlinkResult :
    dec32 100#32 0#32 99#32 ≠ 0#32 ∧ (dec32 100#32 0#32 100#32 = 0#32 ∧ r0.led = false) ∧
    (dec32 100#32 0#32 100#32 = 0#32 ∧ { r0 with led := true }.led = true) := by decide

theorem witness_TickBlinkPhase :
    (∃ s : State, s.regs.TickRuns s.ports.now ∧ s.regs.fan = true) ∧
    (∃ s : State, s.regs.TickRuns s.ports.now ∧ s.regs.fan = false ∧ s.regs.next = .detected ∧
      dec32 s.regs.blk.rem s.regs.blk.ref s.ports.now ≠ 0#32) ∧
    (∃ s : State, s.regs.TickRuns s.ports.now ∧ s.regs.fan = false ∧ s.regs.led = false ∧ s.regs.next = .idle ∧
      dec32 s.regs.blk.rem s.regs.blk.ref s.ports.now = 0#32) ∧
    (∃ s : State, s.regs.TickRuns s.ports.now ∧ s.regs.fan = false ∧ s.regs.led = true ∧ s.regs.trem.rem = 2#32 ∧
      dec32 s.regs.trem.rem s.regs.trem.ref s.ports.now ≠ 0#32 ∧
      dec32 s.regs.blk.rem s.regs.blk.ref s.ports.now = 0#32) :=
  ⟨⟨block { r0 with fan := true } Ports.zero, by decide⟩,
    ⟨block { r0 with next := .detected, blk := ⟨2#32, 0#32⟩ } (tickPorts 1#32 0#8 false), by decide⟩,
    ⟨block r0 Ports.zero, by decide⟩,
    ⟨block { r0 with led := true, trem := ⟨2#32, 0#32⟩ } (tickPorts 1#32 0#8 false), by decide⟩⟩

/-- A wait of 100 one microsecond before its end, and at its end. -/
theorem witness_BusyTickAdvancesWaitOnly :
    (∃ s : State, s.regs.wait.rem ≠ 0#32 ∧ dec32 s.regs.wait.rem s.regs.wait.ref s.ports.now = 1#32) ∧
    (∃ s : State, s.regs.wait.rem ≠ 0#32 ∧ dec32 s.regs.wait.rem s.regs.wait.ref s.ports.now = 0#32) ∧
    Instr.nop ≠ .tick :=
  ⟨⟨block { r0 with wait := ⟨100#32, 0#32⟩ } (tickPorts 99#32 0#8 false), by decide⟩,
    ⟨block { r0 with wait := ⟨100#32, 0#32⟩ } (tickPorts 100#32 0#8 false), by decide⟩, by decide⟩

theorem witness_TickCommitsNext :
    (∃ s : State, s.regs.TickRuns s.ports.now ∧ s.regs.next = .detected ∧ s.regs.fan = true) ∧
    ∃ (i : Instr) (s t : State), i ≠ .tick ∧ i ≠ .clr ∧ exec i s = .next t :=
  ⟨⟨block { r0 with next := .detected, fan := true } Ports.zero, by decide⟩,
    (exec_from_reset .blink).elim fun t h => ⟨.blink, State.reset, t, by decide, by decide, h⟩⟩

/-- With `IDLY` one microsecond before its end, and at its end. -/
theorem witness_TickQualifierPhase :
    (∃ s : State, s.Wf ∧ s.regs.TickRuns s.ports.now ∧ dec32 s.regs.idly.rem s.regs.idly.ref s.ports.now = 1#32) ∧
    (∃ s : State, s.Wf ∧ s.regs.TickRuns s.ports.now ∧ dec32 s.regs.idly.rem s.regs.idly.ref s.ports.now = 0#32) ∧
    (∃ s : State, s.Wf ∧ s.regs.TickRuns s.ports.now ∧ s.regs.next = .idle ∧
      after (exec .tick s) (fun t => (t.regs.dsr, t.regs.sdet.rem, t.regs.bmi.rem)) = some (0xFF#8, 0#32, 0#32)) :=
  ⟨⟨block { r0 with idly := ⟨100#32, 0#32⟩ } (tickPorts 99#32 0#8 false), by decide⟩,
    ⟨block { r0 with idly := ⟨100#32, 0#32⟩ } (tickPorts 100#32 0#8 false), by decide⟩,
    ⟨block { r0 with dsr := 0x7F#8 } (tickPorts 0#32 255#8 false), by decide⟩⟩

/-- The guards of the Idle handler, each latched: Detected (TK3), Reset (TK19), Activate by the button (TK2) and by the
expiry (TK8), and none (TK9). -/
theorem witness_IdleTickLatchesFirstGuard :
    r0.TickRuns 0#32 ∧ r0.next = .idle ∧ ({ r0 with next := .reset }.TickRuns 0#32 ∧ { r0 with next := .reset }.next ≠ .idle) ∧
    after (exec .tick (block { r0 with dsr := 0xFF#8, idly := ⟨50000#32, 1000#32⟩ } (tickPorts 1000#32 0#8 true)))
      (fun t => t.regs.next) = some .detected ∧
    after (exec .tick (block { r0 with fan := true, relay := true, led := true, idly := ⟨50000#32, 0#32⟩ }
      (tickPorts 0#32 0#8 true))) (fun t => (t.regs.next, t.regs.rstman)) = some (.reset, true) ∧
    after (exec .tick (block r0 (tickPorts 0#32 0#8 true))) (fun t => t.regs.next) = some .activate ∧
    after (exec .tick (block { r0 with trem := ⟨10#32, 0#32⟩ } (tickPorts 10#32 0#8 false))) (fun t => t.regs.next) =
      some .activate ∧
    after (exec .tick (block { r0 with trem := ⟨10#32, 0#32⟩ } (tickPorts 9#32 0#8 false))) (fun t => t.regs.next) =
      some .idle := by decide

theorem witness_DetectedTickArmsDelay :
    (∃ s : State, s.regs.TickRuns s.ports.now ∧ s.regs.next = .detected ∧ s.regs.fan = true) ∧
    (∃ s : State, s.regs.TickRuns s.ports.now ∧ s.regs.next = .detected ∧ s.regs.fan = false) :=
  ⟨⟨block { r0 with next := .detected, fan := true } Ports.zero, by decide⟩,
    ⟨block { r0 with next := .detected } Ports.zero, by decide⟩⟩

theorem witness_DetectedTickChainsActivate : ∃ s : State, s.regs.TickRuns s.ports.now ∧ s.regs.next = .detected ∧
    s.regs.fan = true := ⟨block { r0 with next := .detected, fan := true, relay := true } Ports.zero, by decide⟩

theorem witness_ActivateTickStartsFan :
    (∃ s : State, s.regs.TickRuns s.ports.now ∧ s.regs.next = .activate) ∧
    (∃ s : State, s.regs.TickRuns s.ports.now ∧ s.regs.next = .detected ∧ s.regs.fan = true) :=
  ⟨⟨block { r0 with next := .activate } Ports.zero, by decide⟩,
    ⟨block { r0 with next := .detected, fan := true } Ports.zero, by decide⟩⟩

theorem witness_ResetTickStopsFan :
    (∃ s : State, s.regs.TickRuns s.ports.now ∧ s.regs.next = .reset ∧ s.regs.rstman = true) ∧
    (∃ s : State, s.regs.TickRuns s.ports.now ∧ s.regs.next = .reset ∧ s.regs.rstman = false) :=
  ⟨⟨block { r0 with next := .reset, fan := true, rstman := true } Ports.zero, by decide⟩,
    ⟨block { r0 with next := .reset, fan := true } Ports.zero, by decide⟩⟩

theorem witness_TickFrame :
    (∃ (s t : State) (j : Nat), exec .tick s = .next t ∧ j ≠ s.regs.hidx ∧ s.regs.wait.rem = 0#32 ∧ s.regs.next = .idle) ∧
    (∃ s t : State, exec .tick s = .next t ∧ s.regs.fan = true ∧ s.regs.next = .idle) ∧
    (∃ s t : State, exec .tick s = .next t ∧ s.regs.wait.rem = 0#32 ∧ s.regs.next = .detected ∧ s.regs.fan = false) ∧
    (∃ s t : State, exec .tick s = .next t ∧ s.regs.wait.rem = 0#32 ∧ s.regs.next = .reset ∧ s.regs.rstman = false) :=
  ⟨(exec_from_reset .tick).elim fun t h => ⟨State.reset, t, 9, h, by decide⟩,
    ⟨block { r0 with fan := true } Ports.zero, _, rfl, rfl, rfl⟩,
    ⟨block { r0 with next := .detected } Ports.zero, _, rfl, by decide⟩,
    ⟨block { r0 with next := .reset, fan := true } Ports.zero, _, rfl, by decide⟩⟩

theorem witness_OneClockSamplePerTick :
    (∃ s : State, s.regs.wait.rem ≠ 0#32 ∧ ¬ s.regs.TickRuns s.ports.now) ∧
    (∃ s : State, s.regs.TickRuns s.ports.now ∧ s.regs.fan = false ∧ s.regs.wait.rem ≠ 0#32) ∧
    (∃ s : State, s.regs.TickRuns s.ports.now ∧
      after (exec .tick s) (fun t => decide (t.regs.wait.rem ≠ 0#32)) = some true) :=
  ⟨⟨block { r0 with wait := ⟨100#32, 0#32⟩ } (tickPorts 99#32 0#8 false), by decide⟩,
    ⟨block { r0 with wait := ⟨100#32, 0#32⟩ } (tickPorts 100#32 0#8 false), by decide⟩,
    ⟨block { r0 with next := .activate } Ports.zero, by decide⟩⟩

theorem witness_FirstTickAfterReset :
    (∃ (c : Params) (p : Ports) (sp : Nat), c.valid = true ∧ sp = p.s.toNat * (c.iirDen - c.iirNum) / c.iirDen ∧
      c.filterLength = 10) ∧
    (∃ (c : Params) (p : Ports) (sp : Nat), c.valid = true ∧ sp = p.s.toNat * (c.iirDen - c.iirNum) / c.iirDen ∧
      c.filterLength = 1) :=
  ⟨⟨Params.default, tickPorts 0#32 255#8 true, 153, by decide⟩,
    ⟨{ Params.default with filterLength := 1 }, Ports.zero, 0, by decide⟩⟩

theorem witness_ManualActivation : ∃ (s t1 : State) (p2 p3 : Ports), s.cfg.valid = true ∧ s.regs.wait.rem = 0#32 ∧
    s.regs.next = .idle ∧ s.regs.fan = false ∧ s.ports.m = true ∧
    s.cfg.actDebounce ≤ (wsub32 p3.now p2.now).toNat ∧ exec .tick s = .next t1 ∧
    ¬ (t1.regs.dsr = 0xFF#8 ∧ t1.regs.sdet.rem = 0#32 ∧ t1.regs.bmi.rem = 0#32) :=
  ⟨block r0 (tickPorts 0#32 0#8 true), _, tickPorts 1000#32 0#8 false, tickPorts 351000#32 0#8 false, by decide, by decide,
    by decide, by decide, by decide, by decide, rfl, by decide⟩

theorem witness_DetectionSupersedesExpiry : ∃ s : State, s.regs.TickRuns s.ports.now ∧ s.regs.next = .idle ∧
    s.regs.fan = false ∧ s.regs.dsr = 0xFF#8 ∧ dec32 s.regs.idly.rem s.regs.idly.ref s.ports.now ≠ 0#32 ∧
    dec32 s.regs.sdet.rem s.regs.sdet.ref s.ports.now = 0#32 ∧
    dec32 s.regs.bmi.rem s.regs.bmi.ref s.ports.now = 0#32 ∧
    s.regs.trem.rem ≠ 0#32 ∧ dec32 s.regs.trem.rem s.regs.trem.ref s.ports.now = 0#32 :=
  ⟨block { r0 with dsr := 0xFF#8, idly := ⟨50000#32, 0#32⟩, trem := ⟨10#32, 0#32⟩ } (tickPorts 10#32 0#8 false), by decide⟩

theorem witness_RelayOwnedByFsm : ∃ (i : Instr) (s t : State), exec i s = .next t ∧ t.regs.relay ≠ s.regs.relay ∧ i = .tick :=
  ⟨.tick, block { r0 with next := .activate } Ports.zero, _, rfl, by decide, rfl⟩

theorem witness_QualifierStateOwned :
    (∃ (i : Instr) (s t : State), exec i s = .next t ∧ i ≠ .tick ∧ i ≠ .clr ∧ i ≠ .qsample) ∧
    (∃ (i : Instr) (s t : State), exec i s = .next t ∧ i ≠ .tick ∧ i ≠ .clr ∧ i ≠ .dpush ∧ i ≠ .dpushd) :=
  ⟨(exec_from_reset .dpush).elim fun t h => ⟨.dpush, State.reset, t, h, by decide⟩,
    (exec_from_reset .qsample).elim fun t h => ⟨.qsample, State.reset, t, h, by decide⟩⟩

theorem witness_UnusedPortsIgnored :
    (∃ (i : Instr) (s : State) (q : Ports), (∀ port ∈ portsRead i, s.ports.value port = q.value port) ∧ s.ports ≠ q) ∧
    (∃ (s : State) (q : Ports), s.ports.now = q.now ∧ ¬ s.regs.TickRuns s.ports.now ∧ s.ports ≠ q) :=
  ⟨⟨.tick, block r0 Ports.zero, timed 9#32 8#32 0#32, by decide⟩,
    ⟨block { r0 with wait := ⟨100#32, 0#32⟩ } (tickPorts 99#32 0#8 false), tickPorts 99#32 255#8 true, by decide⟩⟩

theorem witness_ButtonReadInIdleOnly :
    (∃ s : State, s.regs.next ≠ .idle) ∧ ∃ s : State, ¬ s.regs.TickRuns s.ports.now :=
  ⟨⟨block { r0 with next := .reset } Ports.zero, by decide⟩,
    ⟨block { r0 with wait := ⟨100#32, 0#32⟩ } (tickPorts 99#32 0#8 true), by decide⟩⟩

theorem witness_ErrIsNoInput :
    (∃ s t : State, step s = .next t ∧ s.regs.err = false) ∧ ∃ (s : State) (f : Fault), step s = .fault f :=
  ⟨(step_presenting .tick).elim fun t h => ⟨_, t, h, rfl⟩,
    ⟨{ presenting [.command 0x00#8 Ports.zero] with live := false }, .notReset, rfl⟩⟩

theorem witness_ExpiredReferencesUnobservable :
    (∃ q : Regs, { q with
        trem := .zero, frem := .zero, sdet := .zero, bmi := .zero, idly := .zero, blk := .zero, wait := .zero } =
        Regs.reset 10 ∧ q.trem.rem = 0#32 ∧ q.frem.rem = 0#32 ∧ q.sdet.rem = 0#32 ∧ q.bmi.rem = 0#32 ∧
        q.idly.rem = 0#32 ∧ q.blk.rem = 0#32 ∧ q.wait.rem = 0#32 ∧ q ≠ Regs.reset 10) ∧
    (∃ (s t : State) (q : Regs), s.regs.SameButExpiredRefs q ∧ s.regs ≠ q ∧ Host.Core.run core 1 s = .next t) :=
  ⟨⟨{ r0 with blk := ⟨0#32, 7#32⟩ }, by decide⟩,
    ⟨presenting [.command 0x07#8 Ports.zero], _, { r0 with blk := ⟨0#32, 7#32⟩ }, by decide, by decide, rfl⟩⟩

theorem witness_StepKeepsShape : ∃ s t : State, s.Wf ∧ step s = .next t :=
  (step_presenting .tick).elim fun t h => ⟨_, t, by decide, h⟩

theorem witness_StepKeepsInterlock : ∃ s t : State, (s.live = true → s.regs.Interlocked) ∧ s.live = true ∧
    step s = .next t := (step_presenting .tick).elim fun t h => ⟨_, t, by decide, rfl, h⟩

theorem witness_StepKeepsLedHeld : ∃ s t : State, (s.live = true → s.regs.LedHeld) ∧
    (∀ p rest, s.pending ≠ .command 0x06#8 p :: rest) ∧ step s = .next t ∧ s.live = true :=
  (step_presenting .tick).elim fun t h =>
    ⟨_, t, by decide, fun p rest h => absurd (HostEvent.command.inj (List.cons.inj h).1).1 (by decide), h, rfl⟩

theorem witness_StepKeepsCountdownBounds :
    (∃ s t : State, (s.live = true → s.regs.Bounded s.cfg) ∧ step s = .next t ∧ s.live = true) ∧
    (∃ s t : State, (s.live = true → s.regs.BlinkBounded s.cfg) ∧
      (∀ p rest, s.pending ≠ .command 0x06#8 p :: rest) ∧ step s = .next t ∧ s.live = true) :=
  (step_presenting .tick).elim fun t h => ⟨⟨_, t, by decide, h, rfl⟩, ⟨_, t, by decide,
    fun p rest h => absurd (HostEvent.command.inj (List.cons.inj h).1).1 (by decide), h, rfl⟩⟩

/-- At the boundary of the longer wait, with `NEXT` Idle, Detected with the fan off, and a Reset that is not manual. -/
theorem witness_WaitAlwaysEnds : ∀ n ∈ [FsmState.idle, .detected, .reset], ∃ s : State, s.regs.next = n ∧
    s.regs.fan = false ∧ s.regs.rstman = false ∧ s.cfg.valid = true ∧ s.regs.Bounded s.cfg ∧
    max s.cfg.actDebounce s.cfg.blockDetectionDelay ≤ (wsub32 s.ports.now s.regs.wait.ref).toNat ∧ s.regs.busy = true :=
  fun n h => ⟨block { r0 with next := n, wait := ⟨3000000#32, 5#32⟩ } (tickPorts 3000005#32 0#8 false),
    by revert n; decide⟩

theorem witness_NoCommandSequenceStopsBlock : ∃ s : State, s.Wf ∧ s.live = true ∧ .powerOn ∉ s.pending ∧
    s.pending.length = 3 := ⟨presenting [.command 0x07#8 Ports.zero, .command 0xFF#8 Ports.zero, .rst], by decide⟩

end Sys2Proof.Tests
end

section
/-! What makes a step refuse its configuration (00_scope.md R8): validity as a conjunction of bounds, and that nothing
past the test of the configuration is refused. -/

namespace Sys2Proof

/-- Every constraint of R8, as a proposition about naturals. -/
theorem Params.valid_iff (c : Params) :
    c.valid = true ↔
      c.delayTime < 2 ^ 32 ∧ c.runTime < 2 ^ 32 ∧ c.heartbeatBlinkTime < 2 ^ 32 ∧
      c.waitingBlinkTime < 2 ^ 32 ∧ c.blinkOnTime < 2 ^ 32 ∧ c.blockDetectionDelay < 2 ^ 32 ∧
      c.detectionInterDelay < 2 ^ 32 ∧ c.actDebounce < 2 ^ 32 ∧
      c.motionBlockTime < 2 ^ 32 ∧ 1 ≤ c.filterLength ∧
      c.iirNum ≤ c.iirDen ∧ 1 ≤ c.iirDen ∧ c.debounceWidth = 8 := by
  simp only [Params.valid, Params.durationsFit, Params.motionBlockFits, Params.historyNonempty,
    Params.coefficientIsRatio, Params.debounceIsByte, Params.fits, Bool.and_eq_true, decide_eq_true_eq, and_assoc]

end Sys2Proof

namespace Sys2Proof.Machine

/-- Every command has a meaning on every state and raises nothing (R145). -/
theorem exec_answers_next (i : Instr) (s : State) : ∃ t, exec i s = .next t := by
  cases i <;> exact ⟨_, rfl⟩

/-- Every accepted word, legal or not, answers a next state. -/
theorem runWord_answers_next (w : Byte) (s : State) : ∃ t, runWord w s = .next t := by
  unfold runWord
  cases decode w with
  | ok i => exact exec_answers_next i s
  | error e => exact ⟨_, rfl⟩

/-- A presented word is run or, before the first reset, stops the block by a fault. -/
theorem acceptCommand_ne_refused (w : Byte) (p : Ports) (s : State) (r : Refusal) :
    acceptCommand w p s ≠ .refused r := by
  unfold acceptCommand
  split
  case isTrue =>
    obtain ⟨t, ht⟩ := runWord_answers_next w { s with ports := p }
    simp [ht]
  case isFalse => simp

/-- Nothing the host presents is refused: the only refusal is that of the configuration. -/
theorem acceptNext_ne_refused (s : State) (r : Refusal) : acceptNext s ≠ .refused r := by
  unfold acceptNext
  cases s.pending with
  | nil => simp
  | cons e rest =>
    cases e with
    | command w p => exact acceptCommand_ne_refused w p _ r
    | rst => simp [acceptEvent]
    | powerOn => simp [acceptEvent]

/-- A step is refused for its configuration exactly when the check of R8 fails. -/
theorem step_refused_badConfiguration_iff (s : State) :
    step s = .refused .badConfiguration ↔ ¬ s.cfg.valid = true := by
  unfold step
  split
  case isTrue hv => simp [hv, acceptNext_ne_refused]
  case isFalse hv => simp [hv]

/-- Settles O7: a step tests the configuration first and refuses nothing after that, and the test is R8's constraints. -/
theorem badConfigurationRefused : Obligations.BadConfigurationRefused := by
  unfold Obligations.BadConfigurationRefused
  intro s
  exact (step_refused_badConfiguration_iff s).trans (not_congr s.cfg.valid_iff)

end Sys2Proof.Machine
end

section
/-! What a step answers, from what the host presents next: the equations of `step`, one per kind of event, the converse
of `step_next_cases`; and what they give at once: no step changes the parameters, and a property of the registers that
every command keeps is kept by every step of a block past its reset. -/

namespace Sys2Proof.Machine

/-! ## The decoder, from the word's side -/

/-- A word that decodes to a command is the command's own word (30_encoding.md R66, R68), over the 256 words. -/
theorem encode_of_decode_ok {w : Byte} {i : Instr} (h : decode w = .ok i) : encode i = w := by
  have hall : ∀ v : Byte, ∀ j ∈ (decode v).toOption, encode j = v := by decide
  exact hall w i (by rw [h]; rfl)

/-! ## One equation of `step` per event -/

section
variable {s : State} (hv : s.cfg.valid = true)
include hv

theorem step_eq_acceptNext : step s = acceptNext s := if_pos hv

theorem step_waiting (hp : s.pending = []) : step s = .next s := by
  rw [step_eq_acceptNext hv, acceptNext, hp]

theorem step_event {e : HostEvent} {rest : List HostEvent} (hp : s.pending = e :: rest) :
    step s = acceptEvent e { s with pending := rest } := by
  rw [step_eq_acceptNext hv, acceptNext, hp]

theorem step_rst {rest : List HostEvent} (hp : s.pending = .rst :: rest) :
    step s = .next (resetBlock { s with pending := rest }) := step_event hv hp

theorem step_powerOn {rest : List HostEvent} (hp : s.pending = .powerOn :: rest) :
    step s = .next (powerOnBlock { s with pending := rest }) := step_event hv hp

variable {w : Byte} {p : Ports} {rest : List HostEvent} (hp : s.pending = .command w p :: rest)
include hp

theorem step_command_accepted (ha : accepts s.live w = true) :
    step s = runWord w { s with ports := p, pending := rest } := (step_event hv hp).trans (if_pos ha)

theorem step_command_not_accepted (ha : accepts s.live w = false) : step s = .fault .notReset :=
  (step_event hv hp).trans (if_neg (Bool.eq_false_iff.mp ha))

end

theorem runWord_of_decode_ok {w : Byte} {i : Instr} (h : decode w = .ok i) (s : State) : runWord w s = exec i s := by
  rw [runWord, h]

theorem runWord_of_decode_error {w : Byte} {e : DecodeError} (h : decode w = .error e) (s : State) :
    runWord w s = .next (raiseIllegalCommand w s) := by
  rw [runWord, h]

/-! ## A run, by its first step -/

section
variable {M : Host.Core} {s : M.State} (n : Nat)

theorem run_succ_of_step_next {t : M.State} (h : M.step s = .next t) : M.run (n + 1) s = M.run n t := by
  rw [Host.Core.run, h]

theorem run_succ_of_step_fault {f : M.Fault} (h : M.step s = .fault f) : M.run (n + 1) s = .fault f := by
  rw [Host.Core.run, h]

theorem run_succ_of_step_refused {r : M.Refusal} (h : M.step s = .refused r) : M.run (n + 1) s = .refused r := by
  rw [Host.Core.run, h]

end

/-! ## What every step keeps -/

/-- The parameters are fixed for the life of the block (10_state.md R42). -/
theorem step_cfg {s t : State} (h : step s = .next t) : t.cfg = s.cfg := by
  obtain ⟨_, ⟨_, rfl⟩ | ⟨w, p, rest, i, _, _, _, hx⟩ | ⟨w, p, rest, e, _, _, _, rfl⟩ | ⟨rest, _, rfl⟩ |
    ⟨rest, _, rfl⟩⟩ := step_next_cases h
  · rfl
  · exact (exec_frame hx).1
  all_goals rfl

/-- The induction step of an invariant of the block past its reset, said once: what the reset registers satisfy, `ERR`
does not touch and every command presented but CLR keeps, every step keeps. -/
theorem step_keeps_while_live {P : Params → Regs → Prop} {s t : State} (h : step s = .next t)
    (hs : s.live = true → P s.cfg s.regs) (hreset : P s.cfg (Regs.reset s.cfg.filterLength))
    (herr : P s.cfg s.regs → P s.cfg { s.regs with err := true })
    (hexec : ∀ p rest i u, i ≠ .clr → s.pending = .command (encode i) p :: rest →
      exec i { s with ports := p, pending := rest } = .next u → P s.cfg s.regs → P s.cfg u.regs) :
    t.live = true → P t.cfg t.regs := by
  intro hlive
  rw [step_cfg h]
  obtain ⟨_, ⟨_, rfl⟩ | ⟨w, p, rest, i, hp, _, hd, hx⟩ | ⟨w, p, rest, e, _, _, _, rfl⟩ | ⟨rest, _, rfl⟩ |
    ⟨rest, _, rfl⟩⟩ := step_next_cases h
  · exact hs hlive
  · by_cases hc : i = .clr
    · subst hc
      obtain rfl := Host.Outcome.next.inj hx
      exact hreset
    · obtain ⟨_, _, _, _, hkeep⟩ := exec_frame hx
      rw [← encode_of_decode_ok hd] at hp
      exact hexec p rest i t hc hp hx (hs ((hkeep hc).symm.trans hlive))
  · exact herr (hs hlive)
  · exact hreset
  · cases hlive

end Sys2Proof.Machine
end

section
/-! What the reference of an expired countdown can reach (10_state.md R48): an advance of an expired countdown answers
the same pair whatever its reference, so two register files that differ in such references alone stay so. -/

namespace Sys2Proof.Machine

/-! ## Countdowns -/

theorem Countdown.SameWhileActive.refl (c : Countdown) : c.SameWhileActive c := ⟨rfl, fun _ => rfl⟩

theorem Countdown.SameWhileActive.of_eq {c d : Countdown} (h : c = d) : c.SameWhileActive d := h ▸ .refl c

/-- The reason R48 holds: an advance forgets the reference of an expired countdown. -/
theorem Countdown.SameWhileActive.advance_eq {c d : Countdown} (h : c.SameWhileActive d) (now : Word) :
    c.advance now = d.advance now := by
  obtain ⟨rem, ref⟩ := c
  obtain ⟨rem', ref'⟩ := d
  obtain ⟨hrem, href⟩ := h
  obtain rfl : rem = rem' := hrem
  by_cases hz : rem = 0#32
  · simp [Countdown.advance, hz]
  · obtain rfl : ref = ref' := href hz
    rfl

theorem Countdown.SameWhileActive.dec32_eq {c d : Countdown} (h : c.SameWhileActive d) (now : Word) :
    dec32 c.rem c.ref now = dec32 d.rem d.ref now := congrArg Countdown.rem (h.advance_eq now)

theorem Countdown.SameWhileActive.active_eq {c d : Countdown} (h : c.SameWhileActive d) : c.active = d.active :=
  congrArg (· != 0#32) h.1

/-- Two expired countdowns agree whatever their references. -/
theorem Countdown.SameWhileActive.of_expired {c d : Countdown} (hc : c.rem = 0#32) (hd : d.rem = 0#32) :
    c.SameWhileActive d := ⟨hc.trans hd.symm, fun h => absurd hc h⟩

/-! ## Register files -/

/-- The registers with the seven countdowns out of account, as `SameButExpiredRefs` compares them. -/
def Regs.eraseCountdowns (r : Regs) : Regs :=
  { r with trem := .zero, frem := .zero, sdet := .zero, bmi := .zero, idly := .zero, blk := .zero, wait := .zero }

namespace Regs.SameButExpiredRefs

variable {r q : Regs}

theorem refl (r : Regs) : r.SameButExpiredRefs r :=
  ⟨.refl _, .refl _, .refl _, .refl _, .refl _, .refl _, .refl _, rfl⟩

/-- The registers outside the countdowns agree. -/
theorem eraseCountdowns_eq (h : r.SameButExpiredRefs q) : r.eraseCountdowns = q.eraseCountdowns := by
  obtain ⟨_, _, _, _, _, _, _, hrest⟩ := h
  exact hrest

/-- An operation that neither reads nor writes a countdown keeps the relation. -/
theorem map (h : r.SameButExpiredRefs q) (f : Regs → Regs)
    (hf : ∀ x : Regs, f x = { f x.eraseCountdowns with
      trem := x.trem, frem := x.frem, sdet := x.sdet, bmi := x.bmi, idly := x.idly, blk := x.blk, wait := x.wait }) :
    (f r).SameButExpiredRefs (f q) := by
  have ⟨htrem, hfrem, hsdet, hbmi, hidly, hblk, hwait, _⟩ := h
  rw [hf r, hf q, h.eraseCountdowns_eq]
  exact ⟨htrem, hfrem, hsdet, hbmi, hidly, hblk, hwait, rfl⟩

/-- A reading of the registers outside the countdowns answers the same. -/
theorem congr_of_eraseCountdowns {α : Type} (h : r.SameButExpiredRefs q) (f : Regs → α)
    (hf : ∀ x : Regs, f x.eraseCountdowns = f x) : f r = f q := by
  rw [← hf r, ← hf q, h.eraseCountdowns_eq]

theorem outputs_eq (h : r.SameButExpiredRefs q) : r.outputs = q.outputs := by
  have ⟨_, _, _, _, _, _, hwait, _⟩ := h
  have hbusy : r.busy = q.busy := hwait.active_eq
  have hrest : { r.outputs with busy := false } = { q.outputs with busy := false } :=
    h.congr_of_eraseCountdowns (fun x => { x.outputs with busy := false }) fun _ => rfl
  calc r.outputs = { { r.outputs with busy := false } with busy := r.busy } := rfl
    _ = { { q.outputs with busy := false } with busy := q.busy } := by rw [hrest, hbusy]
    _ = q.outputs := rfl

theorem setResult (h : r.SameButExpiredRefs q) (v : Word) : (r.setResult v).SameButExpiredRefs (q.setResult v) :=
  h.map (·.setResult v) fun _ => rfl

theorem qualSample (h : r.SameButExpiredRefs q) (c : Params) (x : Byte) :
    (qualSample c x r).SameButExpiredRefs (qualSample c x q) :=
  h.map (Machine.qualSample c x) fun _ => rfl

/-! ## The phases of a tick -/

theorem phaseCommit (h : r.SameButExpiredRefs q) : (phaseCommit r).SameButExpiredRefs (phaseCommit q) :=
  h.map Machine.phaseCommit fun _ => rfl

theorem setIdly (h : r.SameButExpiredRefs q) (d : Countdown) :
    Regs.SameButExpiredRefs { r with idly := d } { q with idly := d } := by
  have ⟨htrem, hfrem, hsdet, hbmi, _, hblk, hwait, _⟩ := h
  exact ⟨htrem, hfrem, hsdet, hbmi, .refl d, hblk, hwait, h.eraseCountdowns_eq⟩

theorem setBlink (h : r.SameButExpiredRefs q) (b : Bool) (d : Countdown) :
    Regs.SameButExpiredRefs { r with led := b, blk := d } { q with led := b, blk := d } := by
  have ⟨htrem, hfrem, hsdet, hbmi, hidly, _, hwait, _⟩ := h
  exact ⟨htrem, hfrem, hsdet, hbmi, hidly, .refl d, hwait,
    congrArg (fun x => { x with led := b }) h.eraseCountdowns_eq⟩

theorem setWait (h : r.SameButExpiredRefs q) {d e : Countdown} (hde : d.SameWhileActive e) :
    Regs.SameButExpiredRefs { r with wait := d } { q with wait := e } := by
  have ⟨htrem, hfrem, hsdet, hbmi, hidly, hblk, _, _⟩ := h
  exact ⟨htrem, hfrem, hsdet, hbmi, hidly, hblk, hde, h.eraseCountdowns_eq⟩

/-- Register files that agree but for `IDLY`, `BLK` and `WAIT`, and there but for expired references. -/
theorem of_idly_blk_wait {i b w : Countdown} (hi : r.idly.SameWhileActive i) (hb : r.blk.SameWhileActive b)
    (hw : r.wait.SameWhileActive w) (hq : q = { r with idly := i, blk := b, wait := w }) : r.SameButExpiredRefs q := by
  subst hq
  exact ⟨.refl _, .refl _, .refl _, .refl _, hi, hb, hw, rfl⟩

theorem phaseQualifier (h : r.SameButExpiredRefs q) (c : Params) (now : Word) (x : Byte) :
    (phaseQualifier c now x r).SameButExpiredRefs (phaseQualifier c now x q) := by
  have hs := h.qualSample c x
  have ⟨_, _, _, _, hidly, _⟩ := hs
  unfold Machine.phaseQualifier pacedPush
  rw [hidly.advance_eq now]
  dsimp only
  split
  · exact hs.setIdly _
  · exact (hs.setIdly _).map (fun y => Machine.dPush y.det y) fun _ => rfl

theorem blinkTick (h : r.SameButExpiredRefs q) (c : Params) (period now : Word) :
    (blinkTick c period now r).SameButExpiredRefs (blinkTick c period now q) := by
  have ⟨_, _, _, _, _, hblk, _⟩ := h
  have hled := h.congr_of_eraseCountdowns (·.led) fun _ => rfl
  rw [blinkTick_eq, blinkTick_eq, hblk.dec32_eq now, hled]
  exact h.setBlink _ _

end Regs.SameButExpiredRefs

/-- The registers phases B and H find: the four countdowns of the FSM, just advanced, agree with their references, and
the other three but for expired references. -/
structure Regs.SameOnceTimed (r q : Regs) : Prop where
  trem : r.trem = q.trem
  frem : r.frem = q.frem
  sdet : r.sdet = q.sdet
  bmi : r.bmi = q.bmi
  same : r.SameButExpiredRefs q

namespace Regs.SameOnceTimed

variable {r q : Regs}

/-- The second register file is the first with its own `IDLY`, `BLK` and `WAIT`. -/
theorem eq_with (h : r.SameOnceTimed q) : q = { r with idly := q.idly, blk := q.blk, wait := q.wait } := by
  calc q = { q.eraseCountdowns with
          trem := q.trem, frem := q.frem, sdet := q.sdet, bmi := q.bmi,
          idly := q.idly, blk := q.blk, wait := q.wait } := rfl
    _ = { r.eraseCountdowns with
          trem := r.trem, frem := r.frem, sdet := r.sdet, bmi := r.bmi,
          idly := q.idly, blk := q.blk, wait := q.wait } := by
        rw [h.same.eraseCountdowns_eq, h.trem, h.frem, h.sdet, h.bmi]
    _ = { r with idly := q.idly, blk := q.blk, wait := q.wait } := rfl

theorem of_phaseTimers (h : r.SameButExpiredRefs q) (now : Word) :
    (phaseTimers now r).SameOnceTimed (phaseTimers now q) := by
  have ⟨htrem, hfrem, hsdet, hbmi, hidly, hblk, hwait, _⟩ := h
  have ht := htrem.advance_eq now
  have hf := hfrem.advance_eq now
  have hs := hsdet.advance_eq now
  have hb := hbmi.advance_eq now
  exact ⟨ht, hf, hs, hb, .of_eq ht, .of_eq hf, .of_eq hs, .of_eq hb, hidly, hblk, hwait, h.eraseCountdowns_eq⟩

theorem phaseBlink (h : r.SameOnceTimed q) (c : Params) (now : Word) :
    (phaseBlink c now r).SameOnceTimed (phaseBlink c now q) := by
  have hfan := h.same.congr_of_eraseCountdowns (·.fan) fun _ => rfl
  have hperiod : blinkPeriod c r = blinkPeriod c q := by rw [blinkPeriod, blinkPeriod, h.trem]
  have hsame : (Machine.phaseBlink c now r).SameButExpiredRefs (Machine.phaseBlink c now q) := by
    unfold Machine.phaseBlink
    rw [hfan, hperiod]
    split
    · exact h.same
    · exact h.same.blinkTick c _ now
  rw [phaseBlink_eq, phaseBlink_eq] at hsame ⊢
  exact ⟨h.trem, h.frem, h.sdet, h.bmi, hsame⟩

theorem phaseHandler (h : r.SameOnceTimed q) (c : Params) (now : Word) (qual expired m : Bool) :
    (phaseHandler c now qual expired m r).SameButExpiredRefs (phaseHandler c now qual expired m q) := by
  obtain ⟨_, _, _, _, hidly, hblk, hwait, _⟩ := h.same
  rw [h.eq_with]
  generalize q.idly = i at hidly
  generalize q.blk = b at hblk
  generalize q.wait = w at hwait
  unfold Machine.phaseHandler
  dsimp only
  split
  case h_1 =>
    rw [idleHandler_eq, idleHandler_eq]
    exact .of_idly_blk_wait hidly hblk hwait rfl
  case h_2 =>
    rcases Bool.eq_false_or_eq_true r.fan with hf | hf
    · rw [detectedHandler_fan_on _ _ _ hf, detectedHandler_fan_on _ _ { r with idly := i, blk := b, wait := w } hf]
      exact .of_idly_blk_wait hidly hblk (.refl _) rfl
    · rw [detectedHandler_fan_off _ _ _ hf, detectedHandler_fan_off _ _ { r with idly := i, blk := b, wait := w } hf]
      exact .of_idly_blk_wait hidly hblk hwait rfl
  case h_3 => exact .of_idly_blk_wait hidly hblk (.refl _) rfl
  case h_4 =>
    rw [resetHandler_eq, resetHandler_eq]
    cases hm : r.rstman with
    | false => exact .of_idly_blk_wait hidly hblk hwait rfl
    | true => exact .of_idly_blk_wait hidly hblk (.refl _) rfl

end Regs.SameOnceTimed

namespace Regs.SameButExpiredRefs

variable {r q : Regs}

theorem tickPhases (h : r.SameButExpiredRefs q) (c : Params) (p : Ports) :
    (tickPhases c p r).SameButExpiredRefs (tickPhases c p q) := by
  have hq := h.phaseCommit.phaseQualifier c p.now p.s
  have hqual := hq.congr_of_eraseCountdowns Regs.qual fun _ => rfl
  have ⟨htrem, _⟩ := hq
  have hexp : delayExpires p.now (Machine.phaseQualifier c p.now p.s (Machine.phaseCommit r)) =
      delayExpires p.now (Machine.phaseQualifier c p.now p.s (Machine.phaseCommit q)) := by
    rw [delayExpires, delayExpires, htrem.active_eq, htrem.advance_eq]
  unfold Machine.tickPhases
  dsimp only
  rw [hqual, hexp]
  exact ((SameOnceTimed.of_phaseTimers hq p.now).phaseBlink c p.now).phaseHandler c p.now _ _ p.m

theorem afterWait (h : r.SameButExpiredRefs q) (now : Word) :
    (afterWait r now).SameButExpiredRefs (afterWait q now) :=
  h.setWait (.of_expired (endedWait_rem r now) (endedWait_rem q now))

theorem tickRegs (h : r.SameButExpiredRefs q) (c : Params) (p : Ports) :
    (tickRegs c p r).SameButExpiredRefs (tickRegs c p q) := by
  have ⟨_, _, _, _, _, _, hwait, _⟩ := h
  have hdec := hwait.dec32_eq p.now
  by_cases hrun : dec32 r.wait.rem r.wait.ref p.now = 0#32
  · rw [tickRegs_runs c p r hrun, tickRegs_runs c p q (hdec ▸ hrun)]
    exact (h.afterWait p.now).tickPhases c p
  · rw [tickRegs_waiting c p r hrun, tickRegs_waiting c p q (hdec ▸ hrun), hwait.advance_eq p.now]
    exact h.setWait (.refl _)

end Regs.SameButExpiredRefs

/-! ## Commands, steps and runs -/

/-- Two blocks that agree but for the references of expired countdowns. -/
def State.SameButExpiredRefs (s s' : State) : Prop :=
  ∃ q, s.regs.SameButExpiredRefs q ∧ s' = { s with regs := q }

/-- Two outcomes that agree: the same stop, or next states that agree but for the references of expired countdowns. -/
inductive SameOutcome : Host.Outcome State Fault Refusal → Host.Outcome State Fault Refusal → Prop
  | next {t t' : State} (h : t.SameButExpiredRefs t') : SameOutcome (.next t) (.next t')
  | fault (f : Fault) : SameOutcome (.fault f) (.fault f)
  | refused (r : Refusal) : SameOutcome (.refused r) (.refused r)

namespace State.SameButExpiredRefs

variable {s s' : State}

theorem exec (h : s.SameButExpiredRefs s') (i : Instr) : SameOutcome (exec i s) (exec i s') := by
  obtain ⟨q, hr, rfl⟩ := h
  cases i with
  | nop => exact .next ⟨q, hr, rfl⟩
  | wsub => exact .next ⟨_, hr.setResult _, rfl⟩
  | tdec => exact .next ⟨_, hr.setResult _, rfl⟩
  | qsample =>
    exact .next ⟨_, hr.map (fun y => (qualSample s.cfg s.opS y).setResult
      (packSample (qualSample s.cfg s.opS y).det (takeSample s.cfg s.opS y))) fun _ => rfl, rfl⟩
  | dpush =>
    exact .next ⟨_, hr.map (fun y => (dPush s.opA0 y).setResult ((dPush s.opA0 y).dsr.setWidth 32)) fun _ => rfl, rfl⟩
  | dpushd =>
    exact .next ⟨_, hr.map (fun y => (dPush y.det y).setResult ((dPush y.det y).dsr.setWidth 32)) fun _ => rfl, rfl⟩
  | blink =>
    have hb := hr.blinkTick s.cfg s.opA s.opNow
    have ⟨_, _, _, _, _, ⟨hrem, _⟩, _⟩ := hb
    exact .next ⟨_, hb.setResult _, by rw [hrem]; rfl⟩
  | tick => exact .next ⟨_, hr.tickRegs s.cfg s.ports, rfl⟩
  | clr => exact .next ⟨_, .refl _, rfl⟩

theorem runWord (h : s.SameButExpiredRefs s') (w : Byte) : SameOutcome (runWord w s) (runWord w s') := by
  cases hd : decode w with
  | ok i =>
    rw [runWord_of_decode_ok hd, runWord_of_decode_ok hd]
    exact h.exec i
  | error e =>
    rw [runWord_of_decode_error hd, runWord_of_decode_error hd]
    obtain ⟨q, hr, rfl⟩ := h
    exact .next ⟨_, hr.map (fun y => { y with err := true }) fun _ => rfl, rfl⟩

theorem acceptEvent (h : s.SameButExpiredRefs s') (e : HostEvent) :
    SameOutcome (acceptEvent e s) (acceptEvent e s') := by
  obtain ⟨q, hr, rfl⟩ := h
  cases e with
  | command w p =>
    unfold Machine.acceptEvent acceptCommand
    dsimp only
    split
    · exact runWord (s := { s with ports := p }) ⟨q, hr, rfl⟩ w
    · exact .fault _
  | rst => exact .next ⟨_, .refl _, rfl⟩
  | powerOn => exact .next ⟨_, .refl _, rfl⟩

theorem step (h : s.SameButExpiredRefs s') : SameOutcome (step s) (step s') := by
  obtain ⟨q, hr, rfl⟩ := h
  by_cases hv : s.cfg.valid = true
  · obtain ⟨pending, hp⟩ : ∃ l, s.pending = l := ⟨_, rfl⟩
    cases pending with
    | nil =>
      rw [step_waiting hv hp, step_waiting (s := { s with regs := q }) hv hp]
      exact .next ⟨q, hr, rfl⟩
    | cons e rest =>
      rw [step_event hv hp, step_event (s := { s with regs := q }) hv hp]
      exact acceptEvent (s := { s with pending := rest }) ⟨q, hr, rfl⟩ e
  · rw [(step_refused_badConfiguration_iff s).mpr hv,
      (step_refused_badConfiguration_iff { s with regs := q }).mpr hv]
    exact .refused _

theorem run (n : Nat) (h : s.SameButExpiredRefs s') :
    SameOutcome (Host.Core.run core n s) (Host.Core.run core n s') := by
  induction n generalizing s s' with
  | zero => exact .next h
  | succ n ih =>
    have hstep : SameOutcome (core.step s) (core.step s') := h.step
    generalize ho : core.step s = o at hstep
    generalize ho' : core.step s' = o' at hstep
    cases hstep with
    | next ht =>
      rw [run_succ_of_step_next n ho, run_succ_of_step_next n ho']
      exact ih ht
    | fault f =>
      rw [run_succ_of_step_fault n ho, run_succ_of_step_fault n ho']
      exact .fault f
    | refused x =>
      rw [run_succ_of_step_refused n ho, run_succ_of_step_refused n ho']
      exact .refused x

end State.SameButExpiredRefs

/-- Settles O45: every operation keeps two register files equal but for references of expired countdowns, so every run
does, and the outputs read no reference. -/
theorem expiredReferencesUnobservable : Obligations.ExpiredReferencesUnobservable := by
  unfold Obligations.ExpiredReferencesUnobservable
  refine ⟨fun n q hrest hexp => ?_, fun n s t q hq hrun => ?_⟩
  · obtain ⟨htrem, hfrem, hsdet, hbmi, hidly, hblk, hwait⟩ := hexp
    exact ⟨.of_expired rfl htrem, .of_expired rfl hfrem, .of_expired rfl hsdet, .of_expired rfl hbmi,
      .of_expired rfl hidly, .of_expired rfl hblk, .of_expired rfl hwait, hrest.symm⟩
  · have hsame : SameOutcome (Host.Core.run core n s) (Host.Core.run core n { s with regs := q }) :=
      State.SameButExpiredRefs.run n ⟨q, hq, rfl⟩
    rw [hrun] at hsame
    generalize Host.Core.run core n { s with regs := q } = o at hsame ⊢
    cases hsame with
    | next ht =>
      obtain ⟨q', hq', rfl⟩ := ht
      exact ⟨q', rfl, hq', hq'.outputs_eq⟩

end Sys2Proof.Machine
end

section
/-! The shape of the state (10_state.md R35, R36, R42; 20_memory.md R51, R52): what a command can do to the history, and
that every step keeps its length and its index in range. -/

namespace Sys2Proof.Machine

/-- A store of a sample, or none: the history keeps its length, and its index stays or moves to the next (R51, R52). -/
def Regs.KeepsHistory (c : Params) (r r' : Regs) : Prop :=
  r'.hist.length = r.hist.length ∧ (r'.hidx = r.hidx ∨ r'.hidx = nextIndex c r.hidx)

theorem tickPhases_keepsHistory (c : Params) (p : Ports) (r : Regs) : r.KeepsHistory c (tickPhases c p r) := by
  rw [tickPhases_eq]
  obtain ⟨⟨_, hhist, hhidx, _⟩, _⟩ :=
    phaseHandler_keeps c p.now (beforeHandler c p r).qual (expires p.now r) p.m (beforeHandler c p r)
  refine ⟨?_, .inr ?_⟩
  · rw [hhist, beforeHandler_hist, List.length_set]
  · rw [hhidx, beforeHandler_hidx]

theorem tickRegs_keepsHistory (c : Params) (p : Ports) (r : Regs) : r.KeepsHistory c (tickRegs c p r) := by
  by_cases hrun : dec32 r.wait.rem r.wait.ref p.now = 0#32
  · rw [tickRegs_runs c p r hrun]
    exact tickPhases_keepsHistory c p (afterWait r p.now)
  · rw [tickRegs_waiting c p r hrun]
    exact ⟨rfl, .inl rfl⟩

/-- Every command but CLR keeps the history's length and stores at most one sample. -/
theorem exec_keepsHistory {i : Instr} {s t : State} (hi : i ≠ .clr) (h : exec i s = .next t) :
    s.regs.KeepsHistory s.cfg t.regs := by
  cases i with
  | clr => exact absurd rfl hi
  | tick =>
    obtain rfl := Host.Outcome.next.inj h
    exact tickRegs_keepsHistory s.cfg s.ports s.regs
  | blink =>
    obtain rfl := Host.Outcome.next.inj h
    simp [Regs.KeepsHistory, blinkTick_eq]
  | qsample =>
    obtain rfl := Host.Outcome.next.inj h
    exact ⟨storeSample_hist_length s.cfg _ s.regs, .inr rfl⟩
  | nop | wsub | tdec | dpush | dpushd =>
    obtain rfl := Host.Outcome.next.inj h
    exact ⟨rfl, .inl rfl⟩

theorem Regs.KeepsHistory.hidx_lt {c : Params} {r r' : Regs} (h : r.KeepsHistory c r') (hN : 1 ≤ c.filterLength)
    (hlt : r.hidx < c.filterLength) : r'.hidx < c.filterLength := by
  obtain ⟨_, hsame | hnext⟩ := h
  · rw [hsame]
    exact hlt
  · rw [hnext]
    exact nextIndex_lt c r.hidx hN

/-- The reset registers have the shape, of any admitted length. -/
theorem resetBlock_wf {s : State} (hv : s.cfg.valid = true) : (resetBlock s).Wf := by
  obtain ⟨_, _, _, _, _, _, hN, _⟩ := s.cfg.valid_bounds hv
  exact ⟨hv, List.length_replicate, fun _ => hN⟩

theorem exec_keeps_wf {i : Instr} {s t : State} (hs : s.Wf) (h : exec i s = .next t) : t.Wf := by
  obtain ⟨hv, hlen, hidx⟩ := hs
  by_cases hi : i = .clr
  · subst hi
    obtain rfl := Host.Outcome.next.inj h
    exact resetBlock_wf hv
  · obtain ⟨hcfg, _, _, _, hlive⟩ := exec_frame h
    have hkeep := exec_keepsHistory hi h
    obtain ⟨_, _, _, _, _, _, hN, _⟩ := s.cfg.valid_bounds hv
    rw [State.Wf, hcfg, hlive hi]
    exact ⟨hv, hkeep.1.trans hlen, fun hl => hkeep.hidx_lt hN (hidx hl)⟩

theorem powerOnBlock_wf {s : State} (hv : s.cfg.valid = true) : (powerOnBlock s).Wf := by
  refine ⟨hv, ?_, fun hlive => ?_⟩
  · exact (List.length_map _).trans List.length_range
  · cases hlive

/-- Settles O46: the cases of a step; a command stores at most one sample, a reset or a power-on gives a history
of N entries. -/
theorem stepKeepsShape : Obligations.StepKeepsShape := by
  unfold Obligations.StepKeepsShape
  intro s t hs h
  refine ⟨?_, step_cfg h⟩
  obtain ⟨hv, ⟨_, rfl⟩ | ⟨w, p, rest, i, _, _, _, hx⟩ | ⟨w, p, rest, e, _, _, _, rfl⟩ | ⟨rest, _, rfl⟩ |
    ⟨rest, _, rfl⟩⟩ := step_next_cases h
  · exact hs
  · exact exec_keeps_wf (s := { s with ports := p, pending := rest }) hs hx
  · exact hs
  · exact resetBlock_wf hv
  · exact powerOnBlock_wf hv

end Sys2Proof.Machine
end

section
/-! The bounds of the countdowns (10_state.md R28 to R34, 42_blink.md R107): an advance never raises a countdown, and a
countdown is only armed with its duration. -/

namespace Sys2Proof.Machine

variable {c : Params} {r : Regs}

/-! ## All countdowns but BLK -/

theorem Regs.bounded_reset (c : Params) (n : Nat) : (Regs.reset n).Bounded c :=
  ⟨Nat.zero_le _, Nat.zero_le _, Nat.zero_le _, Nat.zero_le _, Nat.zero_le _, Nat.zero_le _⟩

theorem afterWait_bounded (h : r.Bounded c) (now : Word) : (afterWait r now).Bounded c := by
  obtain ⟨htrem, hfrem, hsdet, hbmi, hidly, _⟩ := h
  refine ⟨htrem, hfrem, hsdet, hbmi, hidly, ?_⟩
  rw [afterWait_wait, endedWait_rem]
  exact Nat.zero_le _

theorem beforeHandler_bounded (h : r.Bounded c) (p : Ports) : (beforeHandler c p r).Bounded c := by
  obtain ⟨htrem, hfrem, hsdet, hbmi, hidly, hwait⟩ := h
  simp only [Regs.Bounded, beforeHandler_trem, beforeHandler_frem, beforeHandler_sdet, beforeHandler_bmi,
    beforeHandler_idly, beforeHandler_wait, Countdown.advance_rem]
  refine ⟨dec32_le_of_le _ _ _ _ htrem, dec32_le_of_le _ _ _ _ hfrem, dec32_le_of_le _ _ _ _ hsdet,
    dec32_le_of_le _ _ _ _ hbmi, ?_, hwait⟩
  split
  · exact duration_le _
  · exact dec32_le_of_le _ _ _ _ hidly

theorem idleHandler_bounded (h : r.Bounded c) (qual expired m : Bool) : (idleHandler qual expired m r).Bounded c := by
  rw [idleHandler_eq]
  exact h

theorem activateHandler_bounded (h : r.Bounded c) (now : Word) : (activateHandler c now r).Bounded c := by
  obtain ⟨_, _, hsdet, hbmi, hidly, _⟩ := h
  exact ⟨Nat.zero_le _, duration_le _, hsdet, hbmi, hidly, (duration_le _).trans (le_max_left _ _)⟩

theorem detectedCommon_bounded (h : r.Bounded c) : (detectedCommon c r).Bounded c := by
  obtain ⟨htrem, hfrem, _, hbmi, hidly, hwait⟩ := h
  exact ⟨htrem, hfrem, duration_le _, hbmi, hidly, hwait⟩

theorem detectedHandler_bounded (h : r.Bounded c) (now : Word) : (detectedHandler c now r).Bounded c := by
  cases hf : r.fan with
  | true =>
    rw [detectedHandler_fan_on _ _ _ hf]
    exact activateHandler_bounded (detectedCommon_bounded h) now
  | false =>
    rw [detectedHandler_fan_off _ _ _ hf]
    obtain ⟨_, hfrem, _, hbmi, hidly, hwait⟩ := h
    exact ⟨duration_le _, hfrem, duration_le _, hbmi, hidly, hwait⟩

theorem resetHandler_bounded (h : r.Bounded c) (now : Word) : (resetHandler c now r).Bounded c := by
  obtain ⟨_, _, hsdet, _, hidly, hwait⟩ := h
  rw [resetHandler_eq]
  refine ⟨Nat.zero_le _, Nat.zero_le _, hsdet, duration_le _, hidly, ?_⟩
  dsimp only
  split
  · exact (duration_le _).trans (le_max_right _ _)
  · exact hwait

theorem phaseHandler_bounded (h : r.Bounded c) (now : Word) (qual expired m : Bool) :
    (phaseHandler c now qual expired m r).Bounded c := by
  unfold phaseHandler
  cases r.state with
  | idle => exact idleHandler_bounded h qual expired m
  | detected => exact detectedHandler_bounded h now
  | activate => exact activateHandler_bounded h now
  | reset => exact resetHandler_bounded h now

theorem tickRegs_bounded (h : r.Bounded c) (p : Ports) : (tickRegs c p r).Bounded c := by
  by_cases hrun : dec32 r.wait.rem r.wait.ref p.now = 0#32
  · rw [tickRegs_runs c p r hrun, tickPhases_eq]
    exact phaseHandler_bounded (beforeHandler_bounded (afterWait_bounded h p.now) p) p.now _ _ p.m
  · rw [tickRegs_waiting c p r hrun]
    obtain ⟨htrem, hfrem, hsdet, hbmi, hidly, hwait⟩ := h
    exact ⟨htrem, hfrem, hsdet, hbmi, hidly, dec32_le_of_le _ _ _ _ hwait⟩

/-- TICK and CLR are the only commands that write a countdown other than `BLK`. -/
theorem exec_keeps_bounded {i : Instr} {s t : State} (h : exec i s = .next t) (hs : s.regs.Bounded s.cfg) :
    t.regs.Bounded s.cfg := by
  cases i with
  | clr =>
    obtain rfl := Host.Outcome.next.inj h
    exact Regs.bounded_reset s.cfg s.cfg.filterLength
  | tick =>
    obtain rfl := Host.Outcome.next.inj h
    exact tickRegs_bounded hs s.ports
  | blink =>
    obtain rfl := Host.Outcome.next.inj h
    rw [blinkTick_eq]
    exact hs
  | nop | wsub | tdec | qsample | dpush | dpushd =>
    obtain rfl := Host.Outcome.next.inj h
    exact hs

/-! ## BLK -/

theorem Regs.blinkBounded_reset (c : Params) (n : Nat) : (Regs.reset n).BlinkBounded c := Nat.zero_le _

/-- A tick arms `BLK` with one of the three durations or lets it run down (R105, R107). -/
theorem beforeHandler_blinkBounded (h : r.BlinkBounded c) (p : Ports) : (beforeHandler c p r).BlinkBounded c := by
  unfold Regs.BlinkBounded at h ⊢
  obtain hsame | hadv | hon | hwaiting | hheartbeat := beforeHandler_blk_cases c p r
  · rw [hsame]
    exact h
  · rw [hadv]
    exact dec32_le_of_le _ _ _ _ h
  · rw [hon]
    exact (duration_le _).trans (le_max_left _ _)
  · rw [hwaiting]
    exact (duration_le _).trans ((le_max_left _ _).trans (le_max_right _ _))
  · rw [hheartbeat]
    exact (duration_le _).trans ((le_max_right _ _).trans (le_max_right _ _))

theorem tickRegs_blinkBounded (h : r.BlinkBounded c) (p : Ports) : (tickRegs c p r).BlinkBounded c := by
  by_cases hrun : dec32 r.wait.rem r.wait.ref p.now = 0#32
  · rw [tickRegs_runs c p r hrun, tickPhases_eq]
    obtain ⟨⟨_, _, _, _, _, _, hblk, _⟩, _⟩ := phaseHandler_keeps c p.now (beforeHandler c p (afterWait r p.now)).qual
      (expires p.now (afterWait r p.now)) p.m (beforeHandler c p (afterWait r p.now))
    rw [Regs.BlinkBounded, hblk]
    exact beforeHandler_blinkBounded (r := afterWait r p.now) h p
  · rw [tickRegs_waiting c p r hrun]
    exact h

/-- BLINK alone arms `BLK` with a value of the host's (R107, R109). -/
theorem exec_keeps_blinkBounded {i : Instr} {s t : State} (hi : i ≠ .blink) (h : exec i s = .next t)
    (hs : s.regs.BlinkBounded s.cfg) : t.regs.BlinkBounded s.cfg := by
  cases i with
  | blink => exact absurd rfl hi
  | clr =>
    obtain rfl := Host.Outcome.next.inj h
    exact Regs.blinkBounded_reset s.cfg s.cfg.filterLength
  | tick =>
    obtain rfl := Host.Outcome.next.inj h
    exact tickRegs_blinkBounded hs s.ports
  | nop | wsub | tdec | qsample | dpush | dpushd =>
    obtain rfl := Host.Outcome.next.inj h
    exact hs

/-- Settles O49: both bounds hold of the reset registers and every command keeps them, BLINK aside for `BLK`. -/
theorem stepKeepsCountdownBounds : Obligations.StepKeepsCountdownBounds := by
  unfold Obligations.StepKeepsCountdownBounds
  refine ⟨fun s t hs h => ?_, fun s t hs hno h => ?_⟩
  · exact step_keeps_while_live (P := Regs.Bounded) h hs (Regs.bounded_reset _ _) id
      fun p rest i u _ _ hx hb => exec_keeps_bounded (s := { s with ports := p, pending := rest }) hx hb
  · refine step_keeps_while_live (P := Regs.BlinkBounded) h hs (Regs.blinkBounded_reset _ _) id
      fun p rest i u _ hp hx hb => exec_keeps_blinkBounded (s := { s with ports := p, pending := rest }) ?_ hx hb
    rintro rfl
    exact hno p rest hp

/-! ## The reset registers -/

theorem Regs.interlocked_reset (n : Nat) : (Regs.reset n).Interlocked :=
  ⟨rfl, fun _ => rfl, .inl rfl, nofun, nofun, fun _ => rfl⟩

theorem Regs.ledHeld_reset (n : Nat) : (Regs.reset n).LedHeld := nofun

/-- Settles O50: what the reset registers of any admitted configuration satisfy, at the default one. -/
theorem resetMeetsInvariants : Obligations.ResetMeetsInvariants := by
  unfold Obligations.ResetMeetsInvariants
  exact ⟨resetBlock_wf (s := State.reset) (by decide), rfl, Regs.interlocked_reset _, Regs.ledHeld_reset _,
    Regs.bounded_reset _ _, Regs.blinkBounded_reset _ _⟩

end Sys2Proof.Machine
end

section
/-! Before the first reset (10_state.md R49), and the outputs (R44). -/

namespace Sys2Proof.Machine

/-- A block without a reset accepts CLR's word alone (R49, R161). -/
theorem accepts_before_reset_false_iff (w : Byte) : accepts false w = false ↔ w ≠ 0x08#8 := by
  have hclr : encode .clr = 0x08#8 := rfl
  simp [accepts, hclr]

/-- Settles O8: the block does not accept the word, and power-on takes the block back before its first reset. -/
theorem noCommandBeforeReset : Obligations.NoCommandBeforeReset := by
  unfold Obligations.NoCommandBeforeReset
  refine ⟨fun s w p rest hv hl hp hw => ?_, fun s rest hv hp => ?_⟩
  · refine step_command_not_accepted hv hp ?_
    rw [hl]
    exact (accepts_before_reset_false_iff w).mpr hw
  · exact ⟨_, step_powerOn hv hp, rfl, rfl, rfl⟩

theorem Regs.causeCode_eq (r : Regs) : r.causeCode = if r.err then 1#1 else 0#1 := by
  unfold Regs.causeCode
  cases r.err <;> rfl

/-- Settles O53: the outputs are readings of the registers; `QUAL` and `BUSY` are the computed flags. -/
theorem outputsShowRegisters : Obligations.OutputsShowRegisters := by
  unfold Obligations.OutputsShowRegisters
  intro r
  refine ⟨rfl, rfl, rfl, rfl, rfl, rfl, rfl, ?_, ?_, r.qual_iff, r.busy_iff, r.causeCode_eq⟩
  · change r.state.code = _
    cases r.state <;> rfl
  · change r.next.code = _
    cases r.next <;> rfl

end Sys2Proof.Machine
end

section
/-! The ports a command does not read (30_encoding.md R68, R75): the answers to two port assignments that agree on the
ports read differ in the ports alone. -/

namespace Sys2Proof.Machine

/-! ## Agreement on a port is equality of its value -/

section
variable (p q : Ports)

@[simp] theorem Ports.value_a_eq_iff : p.value .a = q.value .a ↔ p.a = q.a := BitVec.toNat_inj
@[simp] theorem Ports.value_b_eq_iff : p.value .b = q.value .b ↔ p.b = q.b := BitVec.toNat_inj
@[simp] theorem Ports.value_now_eq_iff : p.value .now = q.value .now ↔ p.now = q.now := BitVec.toNat_inj
@[simp] theorem Ports.value_s_eq_iff : p.value .s = q.value .s ↔ p.s = q.s := BitVec.toNat_inj
@[simp] theorem Ports.value_m_eq_iff : p.value .m = q.value .m ↔ p.m = q.m := by
  change p.m.toNat = q.m.toNat ↔ _
  cases p.m <;> cases q.m <;> decide

end

/-! ## TICK -/

/-- A tick reads `NOW`, `S` and `M` (R68, R113). -/
theorem tickRegs_congr_ports (c : Params) {p q : Ports} (r : Regs) (hnow : p.now = q.now) (hs : p.s = q.s)
    (hm : p.m = q.m) : tickRegs c p r = tickRegs c q r := by
  obtain ⟨a, b, now, s, m⟩ := p
  obtain ⟨a', b', now', s', m'⟩ := q
  obtain rfl : now = now' := hnow
  obtain rfl : s = s' := hs
  obtain rfl : m = m' := hm
  rfl

/-- A tick that stays busy reads `NOW` alone (R115). -/
theorem tickRegs_congr_now_of_waiting (c : Params) {p q : Ports} (r : Regs) (hnow : p.now = q.now)
    (hwait : ¬ r.TickRuns p.now) : tickRegs c p r = tickRegs c q r := by
  rw [tickRegs_waiting c p r hwait, tickRegs_waiting c q r (hnow ▸ hwait), hnow]

/-! ## Every command -/

/-- On other ports the command `i` answers the same state but for the ports. -/
def IgnoresChange (i : Instr) (s : State) (q : Ports) : Prop :=
  ∃ t, exec i s = .next t ∧ exec i { s with ports := q } = .next { t with ports := q }

variable {s : State} {q : Ports}

/-- TICK writes the registers alone, so equal registers are enough. -/
theorem exec_tick_ignoresChange (h : tickRegs s.cfg s.ports s.regs = tickRegs s.cfg q s.regs) :
    IgnoresChange .tick s q := by
  refine ⟨_, rfl, ?_⟩
  simp only [exec, execTick, State.withRegs, h]

/-- The operands of each command are values on ports its row lists (R68, R75). -/
theorem exec_ignoresChange (i : Instr) (h : ∀ port ∈ portsRead i, s.ports.value port = q.value port) :
    IgnoresChange i s q := by
  cases i with
  | nop | dpushd | clr => exact ⟨_, rfl, rfl⟩
  | wsub =>
    obtain ⟨hb, hnow⟩ : s.ports.b = q.b ∧ s.ports.now = q.now := by simpa [portsRead] using h
    refine ⟨_, rfl, ?_⟩
    simp only [exec, execWsub, State.opB, State.opNow, State.withRegs, hb, hnow]
  | tdec =>
    obtain ⟨ha, hb, hnow⟩ : s.ports.a = q.a ∧ s.ports.b = q.b ∧ s.ports.now = q.now := by simpa [portsRead] using h
    refine ⟨_, rfl, ?_⟩
    simp only [exec, execTdec, State.opA, State.opB, State.opNow, State.withRegs, ha, hb, hnow]
  | qsample =>
    have hs : s.ports.s = q.s := by simpa [portsRead] using h
    refine ⟨_, rfl, ?_⟩
    simp only [exec, execQsample, State.opS, State.withRegs, hs]
  | dpush =>
    have ha : s.ports.a = q.a := by simpa [portsRead] using h
    refine ⟨_, rfl, ?_⟩
    simp only [exec, execDpush, State.opA0, State.withRegs, ha]
  | blink =>
    obtain ⟨ha, hnow⟩ : s.ports.a = q.a ∧ s.ports.now = q.now := by simpa [portsRead] using h
    refine ⟨_, rfl, ?_⟩
    simp only [exec, execBlink, State.opA, State.opNow, State.withRegs, ha, hnow]
  | tick =>
    obtain ⟨hnow, hs, hm⟩ : s.ports.now = q.now ∧ s.ports.s = q.s ∧ s.ports.m = q.m := by
      simpa [portsRead] using h
    exact exec_tick_ignoresChange (tickRegs_congr_ports s.cfg s.regs hnow hs hm)

/-- Settles O42: the operands of a command are the ports of its row, command by command, and a tick that stays busy only
advances `WAIT`, at `NOW`. -/
theorem unusedPortsIgnored : Obligations.UnusedPortsIgnored := by
  unfold Obligations.UnusedPortsIgnored
  exact ⟨fun i _ _ h => exec_ignoresChange i h,
    fun s _ hnow hwait => exec_tick_ignoresChange (tickRegs_congr_now_of_waiting s.cfg s.regs hnow hwait)⟩

end Sys2Proof.Machine
end

section
/-! The decoder on its two fields (30_encoding.md R66, R69 to R71): which words are legal. -/

namespace Sys2Proof

/-! ## The fields of a word -/

theorem fieldRsv_toNat (w : Byte) : (fieldRsv w).toNat = w.toNat / 16 := by
  have hw := w.isLt
  simp only [fieldRsv, BitVec.extractLsb'_toNat, Nat.shiftRight_eq_div_pow]
  omega

theorem fieldOp_toNat (w : Byte) : (fieldOp w).toNat = w.toNat % 16 := by
  simp [fieldOp]

/-! ## The opcode map -/

/-- An opcode up to 8 selects the command of its row (R68). -/
theorem exists_decodeOp_eq_ok {op : BitVec 4} (h : op.toNat ≤ 8) : ∃ i, decodeOp op = .ok i ∧ i.opcode = op := by
  unfold decodeOp
  split
  case h_10 =>
    simp only [imp_false] at *
    omega
  all_goals exact ⟨_, rfl, BitVec.eq_of_toNat_eq (Eq.symm ‹_›)⟩

/-- An opcode above 8 is reserved (R70). -/
theorem decodeOp_eq_error {op : BitVec 4} (h : 8 < op.toNat) : decodeOp op = .error .reservedOpcode := by
  unfold decodeOp
  split
  case h_10 => rfl
  all_goals omega

/-! ## The decode procedure -/

theorem decode_of_fieldRsv_ne {w : Byte} (h : fieldRsv w ≠ 0#4) : decode w = .error .reservedBits := if_neg h

theorem decode_of_fieldRsv_eq {w : Byte} (h : fieldRsv w = 0#4) : decode w = decodeOp (fieldOp w) := if_pos h

/-- The words 0x00 to 0x08 are legal (R69): their reserved bits are 0 and their opcode is at most 8. -/
theorem exists_decode_eq_ok {w : Byte} (h : w.toNat ≤ 8) : ∃ i, decode w = .ok i ∧ i.opcode = fieldOp w := by
  have hrsv : fieldRsv w = 0#4 := by
    refine BitVec.eq_of_toNat_eq ((fieldRsv_toNat w).trans ?_)
    exact Nat.div_eq_of_lt (by omega)
  have hop : (fieldOp w).toNat ≤ 8 := by
    rw [fieldOp_toNat]
    omega
  rw [decode_of_fieldRsv_eq hrsv]
  exact exists_decodeOp_eq_ok hop

/-- Settles O1: the reserved bits are tested first, then the opcode selects a row of the map or none. -/
theorem exactlyNineWordsLegal : Obligations.ExactlyNineWordsLegal := by
  unfold Obligations.ExactlyNineWordsLegal
  exact ⟨fun _ => exists_decode_eq_ok, fun _ => decode_of_fieldRsv_ne,
    fun _ hrsv hop => (decode_of_fieldRsv_eq hrsv).trans (decodeOp_eq_error hop)⟩

/-! ## The word of a command -/

/-- The word a command encodes to is its own (R66, R79). -/
theorem decode_encode (i : Instr) : decode (encode i) = .ok i := by
  cases i <;> rfl

/-- A row of 8 bits stands for its word as it is (R65). -/
theorem tableWord_toNat (w : Byte) : tableWord 8 w.toNat = w := by
  rw [tableWord, Nat.mod_eq_of_lt w.isLt, BitVec.ofNat_toNat, BitVec.setWidth_eq]

end Sys2Proof
end

section
/-! What a step of a block past its reset runs (30_encoding.md R65, R67). -/

namespace Sys2Proof.Machine

/-- A block past its reset runs the command it is presented, on the ports presented with it (R55, R67). -/
theorem step_command_live {s : State} {w : Byte} {p : Ports} {rest : List HostEvent} {i : Instr}
    (hv : s.cfg.valid = true) (hl : s.live = true) (hp : s.pending = .command w p :: rest) (hd : decode w = .ok i) :
    step s = exec i { s with ports := p, pending := rest } := by
  have ha : accepts s.live w = true := by simp [accepts, hl]
  rw [step_command_accepted hv hp ha, runWord_of_decode_ok hd]

/-- Settles O4: a block past its reset accepts every word, and a word that decodes runs its command. -/
theorem stepRunsDecodedCommand : Obligations.StepRunsDecodedCommand := by
  unfold Obligations.StepRunsDecodedCommand
  exact fun _ _ _ _ _ => step_command_live

/-- Settles O5: the word placed is the oldest one presented, to a block past its reset. -/
theorem stepRunsFetchedWord : Obligations.StepRunsFetchedWord := by
  unfold Obligations.StepRunsFetchedWord
  intro s i hv
  have hd : decode (tableWord 8 (encode i).toNat) = .ok i := by rw [tableWord_toNat, decode_encode]
  exact step_command_live (s := s.withFetchWord 8 (encode i).toNat) hv rfl rfl hd

end Sys2Proof.Machine
end

section
/-! The timer arithmetic of 40_timer_arith.md: the two primitives on unsigned integers (R80 to R82), the advances of a
countdown in a row (R83), and the two commands that expose the primitives (R85 to R87). -/

namespace Sys2Proof.Machine

/-! ## The two primitives -/

/-- The wrap-safe difference in exact integers (R80). -/
theorem wsub32_toNat (now last : Word) :
    (wsub32 now last).toNat = (now.toNat + 2 ^ 32 - last.toNat) % 2 ^ 32 := by
  have hlast : last.toNat < 2 ^ 32 := last.isLt
  rw [wsub32, BitVec.toNat_sub, ← Nat.sub_add_comm hlast.le, Nat.add_comm]

/-- The primitive answers the true elapsed time between two clock samples, whether the clock wrapped or not (R80). -/
theorem wsub32_add_left (t e : Word) : wsub32 (t + e) t = e := by
  rw [wsub32, BitVec.add_comm, BitVec.add_sub_cancel]

/-- Two samples `e` apart, both taken from the time `t`. -/
theorem wsub32_add_add (t d e : Word) : wsub32 (t + (d + e)) (t + d) = e := by
  rw [← BitVec.add_assoc, wsub32_add_left]

/-- The two branches of the pseudocode of R81, by the strict comparison. -/
theorem dec32_toNat_ite (rem last now : Word) :
    (dec32 rem last now).toNat =
      if (wsub32 now last).toNat < rem.toNat then rem.toNat - (wsub32 now last).toNat else 0 := by
  rw [dec32_toNat]
  split
  · rfl
  · exact Nat.sub_eq_zero_of_le (by omega)

/-- No time elapsed, nothing counted down (R82 (c)). -/
@[simp] theorem dec32_self (rem last : Word) : dec32 rem last last = rem := by
  apply BitVec.eq_of_toNat_eq
  rw [dec32_toNat, wsub32, BitVec.sub_self]
  rfl

/-- A countdown is over exactly when the elapsed time reaches it (R82 (d)). -/
theorem dec32_eq_zero_iff (rem last now : Word) :
    dec32 rem last now = 0#32 ↔ rem.toNat ≤ (wsub32 now last).toNat := by
  rw [← BitVec.toNat_inj, dec32_toNat]
  exact Nat.sub_eq_zero_iff_le

/-- Settles O15: R80 in exact integers, the branches of R81 and the laws R82 (a) to (d). -/
theorem countdownDecrementLaws : Obligations.CountdownDecrementLaws := by
  unfold Obligations.CountdownDecrementLaws
  intro r l n
  have htrue : ∀ e : Nat, (wsub32 (l + BitVec.ofNat 32 e) l).toNat = e % 2 ^ 32 := fun e => by
    rw [wsub32_add_left, BitVec.toNat_ofNat]
  exact ⟨wsub32_toNat n l, dec32_toNat_ite r l n, htrue, dec32_le_of_le r l n _ le_rfl, dec32_zero l n, dec32_self r l,
    dec32_eq_zero_iff r l n⟩

/-! ## Advances in a row -/

/-- One advance over a true interval below the wrap period takes that interval off, floored at 0 (R80, R81). -/
theorem dec32_toNat_of_wsub32 {rem last now : Word} {e : Nat} (h : wsub32 now last = BitVec.ofNat 32 e)
    (he : e < 2 ^ 32) : (dec32 rem last now).toNat = rem.toNat - e := by
  rw [dec32_toNat, h, BitVec.toNat_ofNat, Nat.mod_eq_of_lt he]

/-- Two advances in a row equal one over the whole interval (R83): each takes its own interval off, floored at 0. -/
theorem dec32_dec32 (r t0 : Word) {e1 e2 : Nat} (h : e1 + e2 < 2 ^ 32) :
    dec32 (dec32 r t0 (t0 + BitVec.ofNat 32 e1)) (t0 + BitVec.ofNat 32 e1) (t0 + BitVec.ofNat 32 (e1 + e2)) =
      dec32 r t0 (t0 + BitVec.ofNat 32 (e1 + e2)) := by
  have hfirst : wsub32 (t0 + BitVec.ofNat 32 e1) t0 = BitVec.ofNat 32 e1 := wsub32_add_left ..
  have hsecond : wsub32 (t0 + BitVec.ofNat 32 (e1 + e2)) (t0 + BitVec.ofNat 32 e1) = BitVec.ofNat 32 e2 := by
    rw [BitVec.ofNat_add, wsub32_add_add]
  have hwhole : wsub32 (t0 + BitVec.ofNat 32 (e1 + e2)) t0 = BitVec.ofNat 32 (e1 + e2) := wsub32_add_left ..
  apply BitVec.eq_of_toNat_eq
  rw [dec32_toNat_of_wsub32 hsecond (by omega), dec32_toNat_of_wsub32 hfirst (by omega),
    dec32_toNat_of_wsub32 hwhole h, Nat.sub_sub]

@[simp] theorem Countdown.advanceBy_nil (c : Countdown) : c.advanceBy [] = c := rfl

@[simp] theorem Countdown.advanceBy_cons (c : Countdown) (e : Nat) (es : List Nat) :
    c.advanceBy (e :: es) = (c.advance (c.ref + BitVec.ofNat 32 e)).advanceBy es := rfl

/-- The telescoping law for any number of advances (R83). -/
theorem Countdown.advanceBy_rem_toNat (c : Countdown) (es : List Nat) (h : es.sum < 2 ^ 32) :
    (c.advanceBy es).rem.toNat = c.rem.toNat - es.sum := by
  induction es generalizing c with
  | nil => rfl
  | cons e es ih =>
    rw [List.sum_cons] at h ⊢
    rw [Countdown.advanceBy_cons, ih _ (by omega), Countdown.advance_rem,
      dec32_toNat_of_wsub32 (wsub32_add_left ..) (by omega), Nat.sub_sub]

/-- Settles O16, by induction on the list of advances. -/
theorem countdownAdvancesTelescope : Obligations.CountdownAdvancesTelescope := by
  unfold Obligations.CountdownAdvancesTelescope
  refine ⟨fun r t0 _ _ => dec32_dec32 r t0, fun c es h => ⟨c.advanceBy_rem_toNat es h, ?_⟩⟩
  rw [← BitVec.toNat_inj, c.advanceBy_rem_toNat es h]
  exact Nat.sub_eq_zero_iff_le

/-! ## The two commands -/

theorem exec_wsub (s : State) :
    exec .wsub s = .next (s.withRegs (s.regs.setResult (wsub32 s.ports.now s.ports.b))) := rfl

theorem exec_tdec (s : State) :
    exec .tdec s = .next (s.withRegs (s.regs.setResult (dec32 s.ports.a s.ports.b s.ports.now))) := rfl

/-- A state whose `RESULT` alone is written with a 32-bit value known as an integer. -/
theorem withRegs_setResult_of_toNat (s : State) {v : Word} {n : Nat} (h : v.toNat = n) :
    s.withRegs (s.regs.setResult v) = { s with regs := { s.regs with result := BitVec.ofNat 32 n } } := by
  subst h
  rw [BitVec.ofNat_toNat, BitVec.setWidth_eq]
  rfl

/-- Settles O13: WSUB writes R80's difference of `NOW` and `B`. -/
theorem wsubResult : Obligations.WsubResult := by
  unfold Obligations.WsubResult
  refine ⟨rfl, fun s => ?_⟩
  rw [exec_wsub, withRegs_setResult_of_toNat s (wsub32_toNat ..)]

/-- Settles O14: TDEC writes R81's decrement of `A` over R80's difference of `NOW` and `B`. -/
theorem tdecResult : Obligations.TdecResult := by
  unfold Obligations.TdecResult
  refine ⟨rfl, fun s elapsed helapsed => ?_⟩
  obtain rfl : (wsub32 s.ports.now s.ports.b).toNat = elapsed := (wsub32_toNat ..).trans helapsed.symm
  rw [exec_tdec, withRegs_setResult_of_toNat s (dec32_toNat_ite ..)]

end Sys2Proof.Machine
end

section
/-! The debounce register of 41_signal_qualifier.md: one push (R95), the unanimity test (R96), and what pushes in a row
leave in `DSR` (R97). -/

namespace Sys2Proof.Machine

/-! ## One push -/

/-- The push of R95 is the library's shift of one bit into the low end. -/
theorem pushBit_eq_shiftConcat (d : Byte) (b : Bool) : pushBit d b = d.shiftConcat b := by
  refine BitVec.eq_of_getLsbD_eq fun j hj => ?_
  rw [BitVec.getLsbD_shiftConcat]
  cases j with
  | zero => simp [pushBit]
  | succ j => simp [pushBit, hj, BitVec.getLsbD_eq_getElem (Nat.lt_of_succ_lt hj)]

/-- One push in exact integers (R95). -/
theorem pushBit_toNat (d : Byte) (b : Bool) : (pushBit d b).toNat = (2 * d.toNat + b.toNat) % 256 := by
  rw [pushBit_eq_shiftConcat, BitVec.toNat_shiftConcat, Nat.shiftLeft_eq, Nat.mul_comm]

@[simp] theorem pushBit_getLsbD_zero (d : Byte) (b : Bool) : (pushBit d b).getLsbD 0 = b := by
  simp [pushBit_eq_shiftConcat]

theorem pushBit_getLsbD_succ (d : Byte) (b : Bool) {j : Nat} (hj : j + 1 < 8) :
    (pushBit d b).getLsbD (j + 1) = d.getLsbD j := by
  rw [pushBit_eq_shiftConcat, BitVec.getLsbD_shiftConcat, decide_eq_true hj, Bool.true_and, if_neg j.succ_ne_zero,
    Nat.add_sub_cancel]

/-! ## Unanimity -/

/-- Unanimity over the 8 bits (R96). -/
theorem eq_0xFF_iff_getLsbD (d : Byte) : d = 0xFF#8 ↔ ∀ j, j < 8 → d.getLsbD j = true := by
  have hones : ∀ j, j < 8 → (0xFF#8).getLsbD j = true := by decide
  constructor
  · rintro rfl
    exact hones
  · intro h
    exact BitVec.eq_of_getLsbD_eq fun j hj => (h j hj).trans (hones j hj).symm

/-- Settles O21: the output is the flag, which compares `DSR` with the byte of 8 ones. -/
theorem qualIsUnanimity : Obligations.QualIsUnanimity := by
  unfold Obligations.QualIsUnanimity
  exact fun r => ⟨r.qual_iff, r.qual_iff.trans (eq_0xFF_iff_getLsbD r.dsr)⟩

/-! ## Pushes in a row -/

/-- What up to 8 pushes leave is unanimous exactly when every bit pushed is 1 and so is every old bit they leave in the
register (R97): each push takes one condition from the old bits and adds one on what is pushed. -/
theorem foldl_pushBit_eq_0xFF_iff (bs : List Bool) (d : Byte) (hlen : bs.length ≤ 8) :
    bs.foldl pushBit d = 0xFF#8 ↔ (∀ b ∈ bs, b = true) ∧ ∀ j, j + bs.length < 8 → d.getLsbD j = true := by
  induction bs generalizing d with
  | nil => simp [eq_0xFF_iff_getLsbD]
  | cons b bs ih =>
    rw [List.length_cons] at hlen ⊢
    rw [List.foldl_cons, ih (pushBit d b) (by omega), List.forall_mem_cons]
    constructor
    · rintro ⟨hbs, hd⟩
      have hb : b = true := (pushBit_getLsbD_zero d b).symm.trans (hd 0 (by omega))
      refine ⟨⟨hb, hbs⟩, fun j hj => ?_⟩
      rw [← pushBit_getLsbD_succ d b (by omega)]
      exact hd (j + 1) (by omega)
    · rintro ⟨⟨hb, hbs⟩, hd⟩
      refine ⟨hbs, fun j hj => ?_⟩
      cases j with
      | zero => exact (pushBit_getLsbD_zero d b).trans hb
      | succ j =>
        rw [pushBit_getLsbD_succ d b (by omega)]
        exact hd j (by omega)

/-- One push of 0 among 8 or fewer, and what they leave is not unanimous. -/
theorem foldl_pushBit_ne_0xFF {bs : List Bool} (d : Byte) (hlen : bs.length ≤ 8) (hmem : false ∈ bs) :
    bs.foldl pushBit d ≠ 0xFF#8 := by
  intro h
  obtain ⟨hbs, _⟩ := (foldl_pushBit_eq_0xFF_iff bs d hlen).mp h
  exact Bool.false_ne_true (hbs false hmem)

/-- Eight pushes of 1 fill the register, whatever it held. -/
theorem foldl_pushBit_replicate_true (d : Byte) : (List.replicate 8 true).foldl pushBit d = 0xFF#8 := by
  refine (foldl_pushBit_eq_0xFF_iff _ d (by simp)).mpr ⟨fun b hb => List.eq_of_mem_replicate hb, fun j hj => ?_⟩
  rw [List.length_replicate] at hj
  omega

/-- From an empty register, 8 or fewer pushes are unanimous only when they are 8, all of them 1. -/
theorem foldl_pushBit_zero_eq_0xFF_iff {bs : List Bool} (hlen : bs.length ≤ 8) :
    bs.foldl pushBit 0x00#8 = 0xFF#8 ↔ bs = List.replicate 8 true := by
  constructor
  · intro h
    obtain ⟨hbs, hold⟩ := (foldl_pushBit_eq_0xFF_iff bs _ hlen).mp h
    have hfull : ¬ 0 + bs.length < 8 := fun hlt => by simpa using hold 0 hlt
    exact List.eq_replicate_iff.mpr ⟨by omega, hbs⟩
  · rintro rfl
    exact foldl_pushBit_replicate_true _

/-! ## The two commands -/

/-- What DPUSH and DPUSHD do with the bit they push (R100, R101). -/
def pushRegs (r : Regs) (b : Bool) : Regs := (dPush b r).setResult ((pushBit r.dsr b).setWidth 32)

@[simp] theorem pushRegs_dsr (r : Regs) (b : Bool) : (pushRegs r b).dsr = pushBit r.dsr b := rfl

theorem exec_dpush (s : State) : exec .dpush s = .next (s.withRegs (pushRegs s.regs (s.ports.a.getLsbD 0))) := rfl

theorem exec_dpushd (s : State) : exec .dpushd s = .next (s.withRegs (pushRegs s.regs s.regs.det)) := rfl

/-- A push in exact integers, with the whole state after it. -/
theorem withRegs_pushRegs (s : State) (b : Bool) {d : Nat} (hd : d = (2 * s.regs.dsr.toNat + b.toNat) % 256) :
    s.withRegs (pushRegs s.regs b) =
      { s with regs := { s.regs with dsr := BitVec.ofNat 8 d, result := BitVec.ofNat 32 d } } := by
  obtain rfl : (pushBit s.regs.dsr b).toNat = d := (pushBit_toNat ..).trans hd.symm
  rw [BitVec.ofNat_toNat, BitVec.ofNat_toNat, BitVec.setWidth_eq]
  rfl

/-- Bit 0 of `A` as an integer (R74, R100). -/
theorem getLsbD_zero_toNat (a : Word) : (a.getLsbD 0).toNat = a.toNat % 2 := by
  rw [BitVec.getLsbD, Nat.toNat_testBit, Nat.pow_zero, Nat.div_one]

/-- Settles O19: the push of `A[0]`. -/
theorem dpushResult : Obligations.DpushResult := by
  unfold Obligations.DpushResult
  refine ⟨rfl, fun s d hd => ?_⟩
  rw [← getLsbD_zero_toNat] at hd
  rw [exec_dpush, withRegs_pushRegs s _ hd]

/-- Settles O20: the push of `DET`. -/
theorem dpushdResult : Obligations.DpushdResult := by
  unfold Obligations.DpushdResult
  refine ⟨rfl, fun s d hd => ?_⟩
  rw [exec_dpushd, withRegs_pushRegs s _ hd]

end Sys2Proof.Machine
end

section
/-! One sample of 41_signal_qualifier.md in exact integers: the average and the blend fit 8 bits (R91, R92), the packed
`RESULT` (R99), the thresholds at the default parameters (R98), and who writes the qualifier's registers (R103). -/

namespace Sys2Proof.Machine

/-! ## The arithmetic of one sample -/

/-- An average of bytes is at most 255. -/
theorem histSum_div_le {c : Params} {h : List Byte} (hlen : h.length = c.filterLength) :
    histSum h / c.filterLength ≤ 255 := by
  have hsum : histSum h ≤ 255 * c.filterLength := hlen ▸ histSum_le h
  exact Nat.div_le_of_le_mul (by rwa [Nat.mul_comm])

/-- The rolling average loses nothing in 8 bits (R91). -/
theorem rollingAverage_toNat {c : Params} {h : List Byte} (hlen : h.length = c.filterLength) :
    (rollingAverage c h).toNat = histSum h / c.filterLength := by
  have hle := histSum_div_le hlen
  rw [rollingAverage, BitVec.toNat_ofNat, Nat.mod_eq_of_lt (by omega)]

/-- A blend of two bytes is at most 255: its weights `k` and `den - k` add up to `den`. -/
theorem blend_le {avg s num den : Nat} (hnum : num ≤ den) (havg : avg ≤ 255) (hs : s ≤ 255) :
    (avg * num + s * (den - num)) / den ≤ 255 := by
  refine Nat.div_le_of_le_mul ?_
  calc avg * num + s * (den - num)
      ≤ 255 * num + 255 * (den - num) := Nat.add_le_add (Nat.mul_le_mul_right _ havg) (Nat.mul_le_mul_right _ hs)
    _ = den * 255 := by rw [← Nat.mul_add, Nat.add_sub_cancel' hnum, Nat.mul_comm]

/-- The blend loses nothing in 8 bits (R92). -/
theorem iirBlend_toNat {c : Params} (hnum : c.iirNum ≤ c.iirDen) (avg s : Byte) :
    (iirBlend c avg s).toNat = (avg.toNat * c.iirNum + s.toNat * (c.iirDen - c.iirNum)) / c.iirDen := by
  have hle := blend_le hnum (Nat.le_of_lt_succ avg.isLt) (Nat.le_of_lt_succ s.isLt)
  rw [iirBlend, BitVec.toNat_ofNat, Nat.mod_eq_of_lt (by omega)]

/-- The fields of QSAMPLE's result lie side by side (R99). -/
theorem packSample_toNat (det : Bool) (x : Sample) :
    (packSample det x).toNat = 65536 * det.toNat + 256 * x.avg.toNat + x.sp.toNat := by
  have havg := x.avg.isLt
  have hsp := x.sp.isLt
  have hjoin : ∀ {m : Nat} (u : BitVec m) (v : Byte), (u ++ v).toNat = u.toNat * 256 + v.toNat := fun u v => by
    rw [BitVec.toNat_append, ← Nat.shiftLeft_add_eq_or_of_lt v.isLt, Nat.shiftLeft_eq]
  rw [packSample, hjoin, hjoin]
  cases det <;> simp <;> omega

/-- The low byte of QSAMPLE's result is the blend (R99). -/
theorem packed_low_byte (d avg : Nat) {sp : Nat} (hsp : sp ≤ 255) :
    (BitVec.ofNat 32 (65536 * d + 256 * avg + sp)).toNat % 256 = sp := by
  rw [BitVec.toNat_ofNat, Nat.mod_mod_of_dvd _ (by decide)]
  omega

/-! ## QSAMPLE -/

/-- What QSAMPLE does to the registers with the sample `x` (R99). -/
def qsampleRegs (c : Params) (x : Byte) (r : Regs) : Regs :=
  (qualSample c x r).setResult (packSample (qualSample c x r).det (takeSample c x r))

theorem exec_qsample (s : State) : exec .qsample s = .next (s.withRegs (qsampleRegs s.cfg s.ports.s s.regs)) := rfl

/-- Settles O18: the narrowed values are the exact ones, as they fit. -/
theorem qsampleResult : Obligations.QsampleResult := by
  unfold Obligations.QsampleResult
  refine ⟨rfl, fun s avg sp det ⟨hv, hlen, _⟩ havg hsp hdet => ?_⟩
  obtain ⟨_, _, _, _, _, _, _, hnum, _⟩ := s.cfg.valid_bounds hv
  set x := takeSample s.cfg s.ports.s s.regs
  have hxavg : x.avg.toNat = avg := (rollingAverage_toNat hlen).trans havg.symm
  have hxsp : x.sp.toNat = sp := (iirBlend_toNat hnum x.avg s.ports.s).trans (by rw [hxavg, hsp])
  have hxdet : detects s.cfg x.sp x.avg = det := by rw [detects, hxsp, hxavg, hdet]
  have hpack : packSample det x = BitVec.ofNat 32 (65536 * det.toNat + 256 * avg + sp) := by
    rw [← hxavg, ← hxsp, ← packSample_toNat, BitVec.ofNat_toNat, BitVec.setWidth_eq]
  have hstore : x.sp = BitVec.ofNat 8 sp := by rw [← hxsp, BitVec.ofNat_toNat, BitVec.setWidth_eq]
  refine ⟨hxavg ▸ Nat.le_of_lt_succ x.avg.isLt, hxsp ▸ Nat.le_of_lt_succ x.sp.isLt, ?_⟩
  rw [exec_qsample, ← hpack, ← hstore, ← hxdet]
  rfl

/-- Settles O23: QSAMPLE's result at `THRESH_MULT = 4`, `MIN_THRESHOLD = 20` and the blend `(2*avg + 3*s) / 5`. -/
theorem detectionThresholds : Obligations.DetectionThresholds := by
  unfold Obligations.DetectionThresholds
  intro s t avg hwf hcfg hexec havg
  obtain ⟨_, hq⟩ := qsampleResult
  obtain ⟨_, hspLe, hnext⟩ := hq s avg _ _ hwf (by rw [hcfg]; exact havg) rfl rfl
  obtain rfl := Host.Outcome.next.inj (hnext.symm.trans hexec)
  simp only [hcfg, Params.default] at hspLe ⊢
  generalize hsp : (avg * 2 + s.ports.s.toNat * (5 - 2)) / 5 = sp at hspLe ⊢
  refine ⟨fun hs => ⟨?_, ?_⟩, fun hdet => ?_, fun h64 => ?_, fun h0 => ?_⟩
  · rw [decide_eq_false_iff_not]
    omega
  · obtain rfl : s.ports.s.toNat = sp := by omega
    rw [BitVec.ofNat_toNat, BitVec.setWidth_eq]
  · have hthresh := of_decide_eq_true hdet
    rw [packed_low_byte _ _ hspLe]
    omega
  · rw [decide_eq_false_iff_not]
    omega
  · rw [decide_eq_true_iff]
    omega

/-- Settles O41, command by command. -/
theorem qualifierStateOwned : Obligations.QualifierStateOwned := by
  unfold Obligations.QualifierStateOwned
  intro i s t h htick hclr
  cases i with
  | tick => exact absurd rfl htick
  | clr => exact absurd rfl hclr
  | nop | wsub | tdec =>
    obtain rfl := Host.Outcome.next.inj h
    exact ⟨fun _ => ⟨rfl, rfl, rfl⟩, fun _ _ => rfl⟩
  | qsample =>
    obtain rfl := Host.Outcome.next.inj h
    exact ⟨fun hne => absurd rfl hne, fun _ _ => rfl⟩
  | dpush =>
    obtain rfl := Host.Outcome.next.inj h
    exact ⟨fun _ => ⟨rfl, rfl, rfl⟩, fun hne _ => absurd rfl hne⟩
  | dpushd =>
    obtain rfl := Host.Outcome.next.inj h
    exact ⟨fun _ => ⟨rfl, rfl, rfl⟩, fun _ hne => absurd rfl hne⟩
  | blink =>
    obtain rfl := Host.Outcome.next.inj h
    simp [blinkTick_eq]

end Sys2Proof.Machine
end

section
/-! Runs of the qualifier's commands: what the host presents in equal portions is a fold over the registers; from it the
pushes in a row (R97), and the pushes that each follow one sample (R98 (e)). -/

namespace Sys2Proof.Machine

/-! ## Runs in portions -/

/-- A run goes on from where its first part ends. -/
theorem run_add_of_run_next {M : Host.Core} {s t : M.State} {n : Nat} (m : Nat) (h : M.run n s = .next t) :
    M.run (n + m) s = M.run m t := by
  induction n generalizing s with
  | zero =>
    obtain rfl := Host.Outcome.next.inj h
    rw [Nat.zero_add]
  | succ n ih =>
    rw [Nat.succ_add]
    cases hstep : M.step s with
    | next u =>
      rw [run_succ_of_step_next n hstep] at h
      rw [run_succ_of_step_next (n + m) hstep, ih h]
    | fault f =>
      rw [run_succ_of_step_fault n hstep] at h
      cases h
    | refused r =>
      rw [run_succ_of_step_refused n hstep] at h
      cases h

/-- The block past its reset takes what stands before `rest` in `n` steps, and its registers are then `r`. -/
def RunsTo (n : Nat) (s : State) (rest : List HostEvent) (r : Regs) : Prop :=
  ∃ p, Host.Core.run core n s = .next { s with regs := r, ports := p, pending := rest }

/-- One command presented. -/
theorem runsTo_command {s : State} {i : Instr} {p : Ports} {rest : List HostEvent} {r : Regs}
    (hv : s.cfg.valid = true) (hl : s.live = true) (hp : s.pending = .command (encode i) p :: rest)
    (hexec : exec i { s with ports := p, pending := rest } = .next { s with regs := r, ports := p, pending := rest }) :
    RunsTo 1 s rest r :=
  ⟨p, run_succ_of_step_next (M := core) 0 ((step_command_live hv hl hp (decode_encode i)).trans hexec)⟩

/-- Two runs, one after the other. -/
theorem RunsTo.append {n m : Nat} {s : State} {more rest : List HostEvent} {r q : Regs} (hfirst : RunsTo n s more r)
    (hrest : ∀ p, RunsTo m { s with regs := r, ports := p, pending := more } rest q) : RunsTo (n + m) s rest q := by
  obtain ⟨p, hn⟩ := hfirst
  obtain ⟨p', hm⟩ := hrest p
  exact ⟨p', (run_add_of_run_next m hn).trans hm⟩

/-- When the host presents one portion of events for each element of a list, and every portion is a run of `n` steps
that acts on the registers by `f`, the whole is a run that folds `f` over the list. -/
theorem runsTo_flatMap {α : Type} {c : Params} {portion : α → List HostEvent} {f : Regs → α → Regs} {n : Nat}
    (hportion : ∀ (s : State) (x : α) (rest : List HostEvent), s.cfg = c → s.live = true →
      s.pending = portion x ++ rest → RunsTo n s rest (f s.regs x))
    (xs : List α) (s : State) (rest : List HostEvent) (hcfg : s.cfg = c) (hl : s.live = true)
    (hp : s.pending = xs.flatMap portion ++ rest) : RunsTo (n * xs.length) s rest (xs.foldl f s.regs) := by
  induction xs generalizing s with
  | nil =>
    obtain rfl : s.pending = rest := hp
    exact ⟨s.ports, rfl⟩
  | cons x xs ih =>
    rw [List.flatMap_cons, List.append_assoc] at hp
    rw [List.length_cons, Nat.mul_succ, Nat.add_comm]
    exact (hportion s x _ hcfg hl hp).append fun p =>
      ih { s with regs := f s.regs x, ports := p, pending := _ } hcfg hl rfl

/-! ## Pushes in a row -/

/-- The bit that `pushAll` puts on `A`. -/
theorem getLsbD_zero_setWidth_ofBool (b : Bool) : ((BitVec.ofBool b).setWidth 32).getLsbD 0 = b := by
  cases b <;> rfl

/-- The DPUSHes of `pushAll`, one step each. -/
theorem runsTo_pushAll {s : State} {bs : List Bool} {rest : List HostEvent} (hv : s.cfg.valid = true)
    (hl : s.live = true) (hp : s.pending = pushAll bs ++ rest) :
    RunsTo bs.length s rest (bs.foldl pushRegs s.regs) := by
  rw [pushAll, List.map_eq_flatMap] at hp
  rw [← Nat.one_mul bs.length]
  refine runsTo_flatMap (fun u b more hcfg hlive hpend => ?_) bs s rest rfl hl hp
  have hpush := runsTo_command (hcfg ▸ hv) hlive hpend (exec_dpush _)
  rwa [getLsbD_zero_setWidth_ofBool] at hpush

theorem foldl_pushRegs_dsr (bs : List Bool) (r : Regs) : (bs.foldl pushRegs r).dsr = bs.foldl pushBit r.dsr := by
  induction bs generalizing r with
  | nil => rfl
  | cons b bs ih => rw [List.foldl_cons, ih, pushRegs_dsr, List.foldl_cons]

/-- A run of pushes ends with `QUAL` telling whether the pushes left `DSR` unanimous. -/
theorem run_pushAll {s : State} {bs : List Bool} {rest : List HostEvent} (hv : s.cfg.valid = true)
    (hl : s.live = true) (hp : s.pending = pushAll bs ++ rest) :
    ∃ t, Host.Core.run core bs.length s = .next t ∧ t.pending = rest ∧
      (t.regs.qual = true ↔ bs.foldl pushBit s.regs.dsr = 0xFF#8) := by
  obtain ⟨p, hrun⟩ := runsTo_pushAll hv hl hp
  exact ⟨_, hrun, rfl, (Regs.qual_iff _).trans (by rw [foldl_pushRegs_dsr])⟩

/-- Settles O22: what the pushes of each run leave in `DSR`. -/
theorem onePushOfZeroCostsEight : Obligations.OnePushOfZeroCostsEight := by
  unfold Obligations.OnePushOfZeroCostsEight
  refine ⟨fun s bs rest hv hl hlen hp => ?_, fun s rest hv hl hp => ?_, fun s bs rest hv hl hdsr hlen hp => ?_⟩
  · obtain ⟨t, hrun, hrest, hqual⟩ := run_pushAll hv hl hp
    rw [Nat.add_comm]
    refine ⟨t, hrun, Bool.eq_false_iff.mpr fun h => ?_, hrest⟩
    exact foldl_pushBit_ne_0xFF _ (by rw [List.length_cons]; omega) List.mem_cons_self (hqual.mp h)
  · obtain ⟨t, hrun, hrest, hqual⟩ := run_pushAll hv hl hp
    exact ⟨t, hrun, hqual.mpr (foldl_pushBit_replicate_true _), hrest⟩
  · obtain ⟨t, hrun, hrest, hqual⟩ := run_pushAll hv hl hp
    rw [hdsr] at hqual
    exact ⟨t, hrun, hrest, hqual.trans (foldl_pushBit_zero_eq_0xFF_iff hlen)⟩

/-! ## The latest entries of the history -/

/-- The latest `n` entries stored, oldest first: the index stands on the oldest entry (R52). -/
def Regs.latest (r : Regs) (n : Nat) : List Byte := (r.hist.rotate r.hidx).drop (r.hist.length - n)

theorem Regs.histSum_latest_le (r : Regs) (n : Nat) : histSum (r.latest n) ≤ histSum r.hist := by
  have hperm : histSum (r.hist.rotate r.hidx) = histSum r.hist := ((r.hist.rotate_perm r.hidx).map _).sum_nat
  rw [← hperm]
  exact ((List.drop_sublist _ _).map _).sum_le_sum fun _ _ => Nat.zero_le _

/-- A store overwrites the oldest entry and is then the latest one (R51, R52). -/
theorem rotate_storeSample {c : Params} {r : Regs} (x : Sample) (hlen : r.hist.length = c.filterLength)
    (hidx : r.hidx < c.filterLength) :
    (storeSample c x r).hist.rotate (storeSample c x r).hidx = (r.hist.rotate r.hidx).tail ++ [x.sp] := by
  rw [← hlen] at hidx
  have hnext : nextIndex c r.hidx = (r.hidx + 1) % (r.hist.set r.hidx x.sp).length := by
    rw [List.length_set, hlen, nextIndex]
  rw [storeSample_hist, storeSample_hidx, hnext, List.rotate_mod,
    List.rotate_eq_drop_append_take (by rw [List.length_set]; exact hidx), List.rotate_eq_drop_append_take hidx.le,
    List.drop_set_of_lt r.hidx.lt_succ_self, List.take_succ_eq_append_getElem (by rwa [List.length_set]),
    List.take_set_of_le le_rfl, List.getElem_set_self, List.drop_eq_getElem_cons hidx, List.cons_append,
    List.tail_cons, List.append_assoc]

/-- While a store does not reach the latest entries it adds its own to them. -/
theorem latest_storeSample {c : Params} {r : Regs} (x : Sample) {n : Nat} (hlen : r.hist.length = c.filterLength)
    (hidx : r.hidx < c.filterLength) (hn : n < c.filterLength) :
    (storeSample c x r).latest (n + 1) = r.latest n ++ [x.sp] := by
  have hdrop : c.filterLength - (n + 1) + 1 = c.filterLength - n := by omega
  rw [Regs.latest, rotate_storeSample x hlen hidx, storeSample_hist_length, hlen,
    List.drop_append_of_le_length (by rw [List.length_tail, List.length_rotate]; omega), ← List.drop_one,
    List.drop_drop, Nat.add_comm 1, hdrop, Regs.latest, hlen]

/-! ## Detections in a row at the default parameters -/

/-- The least sum of the entries that `n` detections in a row store: each exceeds `4 * max(20, avg)`, and what the ones
before it stored is in `avg`. -/
def leastStreakSum : Nat → Nat
  | 0 => 0
  | n + 1 => leastStreakSum n + (4 * max 20 (leastStreakSum n / 10) + 1)

/-- The history of the default block, its latest `n` entries summing to at least what `n` detections in a row store. -/
def Regs.Streak (n : Nat) (r : Regs) : Prop :=
  r.hist.length = 10 ∧ r.hidx < 10 ∧ leastStreakSum n ≤ histSum (r.latest n)

/-- What a detection at the default parameters exceeds (R94). -/
theorem qualSample_threshold {x : Byte} {r : Regs} (hlen : r.hist.length = 10)
    (hdet : (qualSample Params.default x r).det = true) :
    4 * max 20 (histSum r.hist / 10) < (takeSample Params.default x r).sp.toNat := by
  have havg : (takeSample Params.default x r).avg.toNat = histSum r.hist / 10 :=
    rollingAverage_toNat (c := Params.default) hlen
  rw [← havg]
  exact of_decide_eq_true hdet

/-- One more detection makes the streak one longer. -/
theorem Regs.Streak.qualSample {n : Nat} {r : Regs} (h : r.Streak n) (hn : n < 10) {x : Byte}
    (hdet : (qualSample Params.default x r).det = true) : (qualSample Params.default x r).Streak (n + 1) := by
  obtain ⟨hlen, hidx, hsum⟩ := h
  refine ⟨(storeSample_hist_length ..).trans hlen, nextIndex_lt _ _ (by decide), ?_⟩
  have hthresh := qualSample_threshold hlen hdet
  have hall := r.histSum_latest_le n
  have hlatest : (Machine.qualSample Params.default x r).latest (n + 1) =
      r.latest n ++ [(takeSample Params.default x r).sp] :=
    latest_storeSample (c := Params.default) _ hlen hidx hn
  have hadd : histSum (r.latest n ++ [(takeSample Params.default x r).sp]) =
      histSum (r.latest n) + (takeSample Params.default x r).sp.toNat := by
    simp [histSum]
  rw [hlatest, hadd, leastStreakSum]
  omega

/-- After six detections in a row the average is at least 66, and 8 bits hold no detection above it (R98 (c)). -/
theorem Regs.Streak.not_det {r : Regs} (h : r.Streak 6) (x : Byte) :
    (Machine.qualSample Params.default x r).det = false := by
  obtain ⟨hlen, _, hsum⟩ := h
  refine Bool.eq_false_iff.mpr fun hdet => ?_
  have hthresh := qualSample_threshold hlen hdet
  have hall := r.histSum_latest_le 6
  have hleast : leastStreakSum 6 = 666 := rfl
  have hbyte := (takeSample Params.default x r).sp.isLt
  omega

/-! ## Samples, each followed by one push -/

/-- QSAMPLE with the sample `x`, then DPUSHD. -/
def sampleThenPush (c : Params) (r : Regs) (x : Byte) : Regs :=
  pushRegs (qsampleRegs c x r) (qualSample c x r).det

/-- The `DET` of each sample of such a run. -/
def detections (c : Params) (r : Regs) : List Byte → List Bool
  | [] => []
  | x :: xs => (qualSample c x r).det :: detections c (sampleThenPush c r x) xs

theorem detections_length (c : Params) (r : Regs) (xs : List Byte) : (detections c r xs).length = xs.length := by
  induction xs generalizing r with
  | nil => rfl
  | cons x xs ih => exact congrArg (· + 1) (ih (sampleThenPush c r x))

/-- The run pushes its detections. -/
theorem foldl_sampleThenPush_dsr (c : Params) (r : Regs) (xs : List Byte) :
    (xs.foldl (sampleThenPush c) r).dsr = (detections c r xs).foldl pushBit r.dsr := by
  induction xs generalizing r with
  | nil => rfl
  | cons x xs ih => exact ih (sampleThenPush c r x)

/-- The commands of `sampleAndPush`, two steps for each sample. -/
theorem runsTo_sampleAndPush {s : State} {xs : List Byte} {rest : List HostEvent} (hv : s.cfg.valid = true)
    (hl : s.live = true) (hp : s.pending = sampleAndPush xs ++ rest) :
    RunsTo (2 * xs.length) s rest (xs.foldl (sampleThenPush s.cfg) s.regs) := by
  refine runsTo_flatMap (fun u x more hcfg hlive hpend => ?_) xs s rest rfl hl hp
  rw [← hcfg] at hv ⊢
  exact (runsTo_command hv hlive hpend (exec_qsample _)).append fun p => runsTo_command hv hlive rfl (exec_dpushd _)

/-- A streak of `n` and enough samples to make it 7: one of them is no detection. -/
theorem Regs.Streak.false_mem_detections {n : Nat} {r : Regs} (h : r.Streak n) (hn : n ≤ 6) {xs : List Byte}
    (hxs : 7 ≤ n + xs.length) : false ∈ detections Params.default r xs := by
  induction xs generalizing n r with
  | nil =>
    rw [List.length_nil] at hxs
    omega
  | cons x xs ih =>
    rw [List.length_cons] at hxs
    cases hdet : (Machine.qualSample Params.default x r).det with
    | false => exact List.mem_cons.mpr (.inl hdet.symm)
    | true =>
      have hne : n ≠ 6 := by
        rintro rfl
        exact Bool.false_ne_true ((h.not_det x).symm.trans hdet)
      -- The push and `RESULT` leave the history as the sample left it.
      have hnext : (sampleThenPush Params.default r x).Streak (n + 1) := h.qualSample (by omega) hdet
      exact List.mem_cons_of_mem _ (ih hnext (by omega) (by omega))

/-- Settles O24: at most six detections come in a row, so one of the eight pushes is a push of 0. -/
theorem onePushPerSampleNeverQualifies : Obligations.OnePushPerSampleNeverQualifies := by
  unfold Obligations.OnePushPerSampleNeverQualifies
  intro s xs rest ⟨hv, hlen, hidx⟩ hl hcfg hxs hp
  obtain ⟨p, hrun⟩ := runsTo_sampleAndPush hv hl hp
  rw [hcfg] at hlen hidx hrun
  rw [hxs] at hrun
  have hstreak : s.regs.Streak 0 := ⟨hlen, hidx hl, Nat.zero_le _⟩
  have hzero := hstreak.false_mem_detections (by decide) (xs := xs) (by omega)
  refine ⟨_, hrun, Bool.eq_false_iff.mpr fun hqual => ?_, rfl⟩
  refine foldl_pushBit_ne_0xFF s.regs.dsr (by rw [detections_length, hxs]) hzero ?_
  rw [← foldl_sampleThenPush_dsr]
  exact (Regs.qual_iff _).mp hqual

end Sys2Proof.Machine
end

section
/-! The blink of 42_blink.md: the three outcomes of one step of it (R105), which are those of the command BLINK (R109) and
of phase B of a full tick with the fan off (R120, R107). -/

namespace Sys2Proof.Machine

/-! ## One blink step -/

section
variable {now : Word} {r : Regs} (c : Params) (period : Word)

theorem blinkTick_running (h : dec32 r.blk.rem r.blk.ref now ≠ 0#32) :
    blinkTick c period now r = { r with blk := ⟨dec32 r.blk.rem r.blk.ref now, now⟩ } := by
  rw [blinkTick_eq, if_neg h, if_neg h]

theorem blinkTick_turns_on (h : dec32 r.blk.rem r.blk.ref now = 0#32) (hled : r.led = false) :
    blinkTick c period now r = { r with led := true, blk := ⟨duration c.blinkOnTime, now⟩ } := by
  simp [blinkTick_eq, h, hled]

theorem blinkTick_turns_off (h : dec32 r.blk.rem r.blk.ref now = 0#32) (hled : r.led = true) :
    blinkTick c period now r = { r with led := false, blk := ⟨period, now⟩ } := by
  simp [blinkTick_eq, h, hled]

end

/-- The registers BLINK leaves (R109). -/
def blinkRegs (c : Params) (period now : Word) (r : Regs) : Regs :=
  (blinkTick c period now r).setResult (blinkTick c period now r).blk.rem

theorem exec_blink (s : State) :
    exec .blink s = .next (s.withRegs (blinkRegs s.cfg s.ports.a s.ports.now s.regs)) := rfl

/-- Settles O25: the three outcomes of one blink step, each with `RESULT` the new `BLK`. -/
theorem blinkResult : Obligations.BlinkResult := by
  unfold Obligations.BlinkResult
  refine ⟨rfl, fun s left hleft => ?_⟩
  subst hleft
  rw [exec_blink, blinkRegs]
  refine ⟨fun hrun => ?_, fun hover hled => ?_, fun hover hled => ?_⟩
  · rw [blinkTick_running _ _ hrun]
    rfl
  · rw [blinkTick_turns_on _ _ hover hled]
    rfl
  · rw [blinkTick_turns_off _ _ hover hled]
    rfl

/-! ## The blink of a full tick -/

section
variable (c : Params) (p : Ports) (r : Regs)

/-- The OFF period of a tick, from the advanced `TREM` (R107). -/
theorem blinkPeriod_phaseTimers (now : Word) :
    blinkPeriod c (phaseTimers now r) = BitVec.ofNat 32
      (if dec32 r.trem.rem r.trem.ref now = 0#32 then c.heartbeatBlinkTime else c.waitingBlinkTime) := by
  by_cases h : dec32 r.trem.rem r.trem.ref now = 0#32 <;>
    simp [blinkPeriod, phaseTimers, Countdown.active, duration, h]

/-- No handler writes `BLK`. -/
theorem tickPhases_blk : (tickPhases c p r).blk = (beforeHandler c p r).blk := by
  rw [tickPhases_eq]
  obtain ⟨⟨_, _, _, _, _, _, hblk, _⟩, _⟩ :=
    phaseHandler_keeps c p.now (beforeHandler c p r).qual (expires p.now r) p.m (beforeHandler c p r)
  exact hblk

theorem tickPhases_blk_fan_on (hf : r.fan = true) : (tickPhases c p r).blk = r.blk := by
  rw [tickPhases_blk, beforeHandler_blk, if_pos hf]

/-- With the fan off `BLK` takes the step BLINK takes (R120). -/
theorem tickPhases_blk_fan_off (hf : r.fan = false) :
    (tickPhases c p r).blk = (blinkTick c (blinkPeriod c (phaseTimers p.now r)) p.now r).blk := by
  rw [tickPhases_blk, beforeHandler_blk, if_neg (Bool.eq_false_iff.mp hf), blinkTick_eq]
  rfl

/-- Idle, and Detected with the fan off, leave the LED to the blink (R121, R127). -/
theorem tickPhases_led_fan_off (hf : r.fan = false) (hn : r.next = .idle ∨ r.next = .detected) :
    (tickPhases c p r).led = if dec32 r.blk.rem r.blk.ref p.now = 0#32 then !r.led else r.led := by
  have hled : (beforeHandler c p r).led = if dec32 r.blk.rem r.blk.ref p.now = 0#32 then !r.led else r.led := by
    simp [hf]
  obtain hn | hn := hn
  · rw [tickPhases_idle c p r hn, idleHandler_eq, ← hled]
  · rw [tickPhases_detected_fan_off c p r hn hf, ← hled]

theorem blinkTick_afterWait_blk (period now : Word) :
    (blinkTick c period now (afterWait r now)).blk = (blinkTick c period now r).blk := by
  rw [blinkTick_eq, blinkTick_eq]
  rfl

end

/-- Settles O26: phase B alone writes `BLK`, and the LED too where the handler leaves it. -/
theorem tickBlinkPhase : Obligations.TickBlinkPhase := by
  unfold Obligations.TickBlinkPhase
  intro s left period hruns hleft hperiod
  subst hleft
  have hoff (hf : s.regs.fan = false) : (tickPhases s.cfg s.ports (afterWait s.regs s.ports.now)).blk =
      (blinkTick s.cfg period s.ports.now s.regs).blk := by
    rw [tickPhases_blk_fan_off _ _ (afterWait s.regs s.ports.now) hf, blinkPeriod_phaseTimers, afterWait_trem,
      ← hperiod, blinkTick_afterWait_blk]
  refine ⟨_, exec_tick_runs s hruns, tickPhases_blk_fan_on s.cfg s.ports (afterWait s.regs s.ports.now),
    fun hf hrun => ?_, fun hf hover hled => ?_, fun hf hover hled => ?_,
    tickPhases_led_fan_off s.cfg s.ports (afterWait s.regs s.ports.now)⟩
  · rw [hoff hf, blinkTick_running _ _ hrun]
  · rw [hoff hf, blinkTick_turns_on _ _ hover hled]
    rfl
  · rw [hoff hf, blinkTick_turns_off _ _ hover hled]

end Sys2Proof.Machine
end

section
/-! What a TICK that runs in full leaves in the registers (43_control_fsm.md R113 to R132): what every such tick does,
then what is left by the handler of each committed state, one structure of named facts for each. The statements about
the tick are read off these facts. -/

namespace Sys2Proof.Machine

/-! ## Every full tick, whatever its handler -/

/-- The registers after a tick that runs in full: phases C to H, from the ended wait (R115). -/
def fullTickRegs (c : Params) (p : Ports) (r : Regs) : Regs := tickPhases c p (afterWait r p.now)

theorem tickRegs_eq_fullTickRegs {c : Params} {p : Ports} {r : Regs} (h : r.TickRuns p.now) :
    tickRegs c p r = fullTickRegs c p r := tickRegs_runs c p r h

theorem exec_tick_full {s : State} (h : s.regs.TickRuns s.ports.now) :
    exec .tick s = .next (s.withRegs (fullTickRegs s.cfg s.ports s.regs)) := exec_tick_runs s h

theorem Regs.tickRuns_of_expired {r : Regs} (h : r.wait.rem = 0#32) (now : Word) : r.TickRuns now := by
  rw [Regs.TickRuns, h, dec32_zero]

/-- The bits of `EVT` that the handler of a committed state sets, the chained Activate's included (R116, R128). -/
def handlerEvents (committed : FsmState) (fan : Bool) : BitVec 3 :=
  match committed with
  | .idle => 0b000#3
  | .detected => if fan then 0b011#3 else 0b001#3
  | .activate => 0b010#3
  | .reset => 0b100#3

/-- A tick clears `EVT` before its handler sets its bits (R116). -/
theorem tickPhases_evt (c : Params) (p : Ports) (r : Regs) :
    (tickPhases c p r).evt = handlerEvents r.next r.fan := by
  cases hn : r.next with
  | idle =>
    rw [tickPhases_idle c p r hn, idleHandler_eq]
    exact beforeHandler_evt c p r
  | detected =>
    cases hf : r.fan with
    | true =>
      rw [tickPhases_detected_fan_on c p r hn hf]
      simp [activateHandler, detectedCommon, handlerEvents]
    | false =>
      rw [tickPhases_detected_fan_off c p r hn hf]
      simp [handlerEvents]
  | activate =>
    rw [tickPhases_activate c p r hn]
    simp [activateHandler, handlerEvents]
  | reset =>
    rw [tickPhases_reset c p r hn, resetHandler_eq]
    simp [handlerEvents]

/-- What every full tick at the ports `p` makes of the registers `r`: the commit (R116), the sample and the paced push
(R118), and one `NOW` for every countdown (R117). -/
structure Regs.FullyTicked (c : Params) (p : Ports) (r t : Regs) : Prop where
  state : t.state = r.next
  evt : t.evt = handlerEvents r.next r.fan
  hist : t.hist = r.hist.set r.hidx (iirBlend c (rollingAverage c r.hist) p.s)
  hidx : t.hidx = nextIndex c r.hidx
  det : t.det = detects c (iirBlend c (rollingAverage c r.hist) p.s) (rollingAverage c r.hist)
  dsr : t.dsr = if dec32 r.idly.rem r.idly.ref p.now = 0#32 then pushBit r.dsr t.det else r.dsr
  idly : t.idly = ⟨if dec32 r.idly.rem r.idly.ref p.now = 0#32 then duration c.detectionInterDelay
    else dec32 r.idly.rem r.idly.ref p.now, p.now⟩
  err : t.err = r.err
  result : t.result = r.result
  trem_ref : t.trem.ref = p.now
  frem_ref : t.frem.ref = p.now
  sdet_ref : t.sdet.ref = p.now
  bmi_ref : t.bmi.ref = p.now
  blk_ref : r.fan = false → t.blk.ref = p.now
  wait : t.wait = endedWait r p.now ∨ t.wait.ref = p.now

theorem fullTickRegs_fullyTicked (c : Params) (p : Ports) (r : Regs) :
    r.FullyTicked c p (fullTickRegs c p r) := by
  obtain ⟨⟨hstate, hhist, hhidx, hdet, hdsr, hidly, _, herr, hresult⟩, htrem, hfrem, hsdet, hbmi, hwait⟩ :=
    phaseHandler_keeps c p.now (beforeHandler c p (afterWait r p.now)).qual (expires p.now (afterWait r p.now)) p.m
      (beforeHandler c p (afterWait r p.now))
  rw [← tickPhases_eq, ← fullTickRegs] at hstate hhist hhidx hdet hdsr hidly herr hresult htrem hfrem hsdet hbmi hwait
  exact {
    state := hstate.trans (beforeHandler_state ..)
    evt := tickPhases_evt c p (afterWait r p.now)
    hist := hhist.trans (beforeHandler_hist ..)
    hidx := hhidx.trans (beforeHandler_hidx ..)
    det := hdet.trans (beforeHandler_det ..)
    dsr := by rw [hdsr, hdet, beforeHandler_dsr, beforeHandler_det]; rfl
    idly := hidly.trans (beforeHandler_idly ..)
    err := herr.trans (beforeHandler_err ..)
    result := hresult.trans (beforeHandler_result ..)
    trem_ref := htrem.trans (by rw [beforeHandler_trem]; rfl)
    frem_ref := hfrem.trans (by rw [beforeHandler_frem]; rfl)
    sdet_ref := hsdet.trans (by rw [beforeHandler_sdet]; rfl)
    bmi_ref := hbmi.trans (by rw [beforeHandler_bmi]; rfl)
    blk_ref := fun hf => by rw [fullTickRegs, tickPhases_blk_fan_off c p (afterWait r p.now) hf, blinkTick_eq]
    wait := by rwa [beforeHandler_wait, afterWait_wait] at hwait }

/-! ## The guards of the Idle handler -/

/-- The condition of the guard Idle to Detected (R122), over the registers it reads. -/
abbrev Regs.MotionQualified (r : Regs) : Prop := r.dsr = 0xFF#8 ∧ r.sdet.rem = 0#32 ∧ r.bmi.rem = 0#32

/-- The condition of the guard Idle to Reset (R123). -/
abbrev Regs.RunStops (m : Bool) (r : Regs) : Prop := r.fan = true ∧ (m = true ∨ r.frem.rem = 0#32)

theorem detectedGuard_iff (r : Regs) : detectedGuard r.qual r = true ↔ r.MotionQualified := by
  simp [detectedGuard, Regs.qual_iff, Countdown.active_false_iff, and_assoc]

theorem resetGuard_iff (m : Bool) (r : Regs) : resetGuard m r = true ↔ r.RunStops m := by
  simp [resetGuard, Countdown.active_false_iff]

theorem activateGuard_iff (expired m : Bool) (r : Regs) :
    activateGuard expired m r = true ↔ (m = true ∧ r.fan = false) ∨ expired = true := by
  simp [activateGuard]

/-- The delay expires in the tick that takes an active `TREM` to 0 (R119). -/
theorem expires_iff (now : Word) (r : Regs) :
    expires now r = true ↔ r.trem.rem ≠ 0#32 ∧ (r.trem.advance now).rem = 0#32 := by
  simp [expires, Countdown.active_iff, Countdown.active_false_iff]

/-! ## The handlers -/

/-- A full tick that commits Idle (R121 to R125): the countdowns advance, and the first guard that holds is latched. -/
structure Regs.IdleTicked (p : Ports) (r t : Regs) : Prop where
  trem : t.trem = r.trem.advance p.now
  frem : t.frem = r.frem.advance p.now
  sdet : t.sdet = r.sdet.advance p.now
  bmi : t.bmi = r.bmi.advance p.now
  fan : t.fan = r.fan
  relay : t.relay = r.relay
  led_of_fan : r.fan = true → t.led = r.led
  wait : t.wait = endedWait r p.now
  next : t.next = if t.MotionQualified then .detected else if t.RunStops p.m then .reset
    else if (p.m = true ∧ r.fan = false) ∨ (r.trem.rem ≠ 0#32 ∧ t.trem.rem = 0#32) then .activate else .idle
  rstman : t.rstman = if ¬ t.MotionQualified ∧ t.RunStops p.m then p.m else r.rstman

/-- A full tick that commits Detected with the fan off (R126, R127). -/
structure Regs.DelayStarted (c : Params) (now : Word) (r t : Regs) : Prop where
  next : t.next = .idle
  sdet : t.sdet = ⟨duration c.blockDetectionDelay, now⟩
  trem : t.trem = ⟨duration c.delayTime, now⟩
  frem : t.frem = r.frem.advance now
  bmi : t.bmi = r.bmi.advance now
  fan : t.fan = false
  relay : t.relay = r.relay
  wait : t.wait = endedWait r now
  rstman : t.rstman = r.rstman

/-- The tick runs the Activate handler: for committed Activate, or chained from Detected with the fan running (R128). -/
abbrev Regs.StartsFan (r : Regs) : Prop := r.next = .activate ∨ (r.next = .detected ∧ r.fan = true)

/-- A full tick that runs the Activate handler (R128 to R130). -/
structure Regs.FanStarted (c : Params) (now : Word) (r t : Regs) : Prop where
  next : t.next = .idle
  fan : t.fan = true
  relay : t.relay = true
  led : t.led = true
  frem : t.frem = ⟨duration c.runTime, now⟩
  trem : t.trem = ⟨0#32, now⟩
  sdet : t.sdet = if r.next = .detected then ⟨duration c.blockDetectionDelay, now⟩ else r.sdet.advance now
  bmi : t.bmi = r.bmi.advance now
  wait : t.wait = ⟨duration c.actDebounce, now⟩
  rstman : t.rstman = r.rstman

/-- A full tick that commits Reset (R131, R132). -/
structure Regs.FanStopped (c : Params) (now : Word) (r t : Regs) : Prop where
  next : t.next = .idle
  fan : t.fan = false
  relay : t.relay = false
  led : t.led = false
  frem : t.frem = ⟨0#32, now⟩
  trem : t.trem = ⟨0#32, now⟩
  sdet : t.sdet = r.sdet.advance now
  bmi : t.bmi = ⟨duration c.motionBlockTime, now⟩
  wait : t.wait = if r.rstman then ⟨duration c.blockDetectionDelay, now⟩ else endedWait r now
  rstman : t.rstman = false

section
variable (c : Params) (p : Ports) {r : Regs}

theorem fullTickRegs_idleTicked (hn : r.next = .idle) : r.IdleTicked p (fullTickRegs c p r) := by
  rw [fullTickRegs, tickPhases_idle c p (afterWait r p.now) hn, idleHandler_eq]
  constructor
  case led_of_fan =>
    intro hf
    simp [hf]
  case next =>
    simp only [detectedGuard_iff, resetGuard_iff, activateGuard_iff, expires_iff, Regs.MotionQualified, Regs.RunStops,
      beforeHandler_fan, beforeHandler_trem, afterWait_fan, afterWait_trem]
  case rstman =>
    simp only [Bool.and_eq_true, Bool.not_eq_true', ← Bool.not_eq_true, detectedGuard_iff, resetGuard_iff,
      beforeHandler_rstman, afterWait_rstman]
  all_goals simp

theorem fullTickRegs_delayStarted (hn : r.next = .detected) (hf : r.fan = false) :
    r.DelayStarted c p.now (fullTickRegs c p r) := by
  rw [fullTickRegs, tickPhases_detected_fan_off c p (afterWait r p.now) hn hf]
  constructor <;> simp [Countdown.arm, hf]

theorem fullTickRegs_fanStarted (h : r.StartsFan) : r.FanStarted c p.now (fullTickRegs c p r) := by
  obtain hn | ⟨hn, hf⟩ := h
  · rw [fullTickRegs, tickPhases_activate c p (afterWait r p.now) hn]
    constructor <;> simp [activateHandler, Countdown.arm, Countdown.clear, hn]
  · rw [fullTickRegs, tickPhases_detected_fan_on c p (afterWait r p.now) hn hf]
    constructor <;> simp [activateHandler, detectedCommon, Countdown.arm, Countdown.clear, hn]

theorem fullTickRegs_fanStopped (hn : r.next = .reset) : r.FanStopped c p.now (fullTickRegs c p r) := by
  rw [fullTickRegs, tickPhases_reset c p (afterWait r p.now) hn, resetHandler_eq]
  constructor <;> simp [Countdown.arm, Countdown.clear]

/-- A full tick is one of four: which handler runs is told by `NEXT` and `FAN` (R121, R128). -/
theorem fullTickRegs_cases (r : Regs) :
    (r.next = .idle ∧ r.IdleTicked p (fullTickRegs c p r)) ∨
    (r.next = .detected ∧ r.fan = false ∧ r.DelayStarted c p.now (fullTickRegs c p r)) ∨
    (r.StartsFan ∧ r.FanStarted c p.now (fullTickRegs c p r)) ∨
    (r.next = .reset ∧ r.FanStopped c p.now (fullTickRegs c p r)) := by
  cases hn : r.next with
  | idle => exact .inl ⟨rfl, fullTickRegs_idleTicked c p hn⟩
  | detected =>
    cases hf : r.fan with
    | true => exact .inr (.inr (.inl ⟨.inr ⟨hn, hf⟩, fullTickRegs_fanStarted c p (.inr ⟨hn, hf⟩)⟩))
    | false => exact .inr (.inl ⟨rfl, rfl, fullTickRegs_delayStarted c p hn hf⟩)
  | activate => exact .inr (.inr (.inl ⟨.inl hn, fullTickRegs_fanStarted c p (.inl hn)⟩))
  | reset => exact .inr (.inr (.inr ⟨rfl, fullTickRegs_fanStopped c p hn⟩))

/-- The handlers that arm no wait: Idle's, Detected's with the fan off, and Reset's when the reset was not manual. -/
abbrev Regs.ArmsNoWait (r : Regs) : Prop :=
  r.next = .idle ∨ (r.next = .detected ∧ r.fan = false) ∨ (r.next = .reset ∧ r.rstman = false)

/-- Where the handler arms no wait, `WAIT` is what phase W left (R115). -/
theorem fullTickRegs_wait_of_armsNoWait (h : r.ArmsNoWait) : (fullTickRegs c p r).wait = endedWait r p.now := by
  obtain hn | ⟨hn, hf⟩ | ⟨hn, hm⟩ := h
  · exact (fullTickRegs_idleTicked c p hn).wait
  · exact (fullTickRegs_delayStarted c p hn hf).wait
  · rw [(fullTickRegs_fanStopped c p hn).wait, hm]
    rfl

theorem fullTickRegs_wait_rem_of_armsNoWait (h : r.ArmsNoWait) : (fullTickRegs c p r).wait.rem = 0#32 := by
  rw [fullTickRegs_wait_of_armsNoWait c p h, endedWait_rem]

end

/-! ## The other commands -/

/-- No command but TICK and CLR writes a register of the FSM; `LED` is written by BLINK too. -/
theorem exec_keeps_fsm {i : Instr} {s t : State} (htick : i ≠ .tick) (hclr : i ≠ .clr) (h : exec i s = .next t) :
    (t.regs.state = s.regs.state ∧ t.regs.next = s.regs.next ∧ t.regs.evt = s.regs.evt) ∧
    (t.regs.fan = s.regs.fan ∧ t.regs.relay = s.regs.relay ∧ (i ≠ .blink → t.regs.led = s.regs.led)) ∧
    (t.regs.trem = s.regs.trem ∧ t.regs.wait = s.regs.wait ∧ t.regs.rstman = s.regs.rstman) := by
  cases i with
  | tick => exact absurd rfl htick
  | clr => exact absurd rfl hclr
  | blink =>
    obtain rfl := Host.Outcome.next.inj h
    simp [blinkTick_eq]
  | nop | wsub | tdec | qsample | dpush | dpushd =>
    obtain rfl := Host.Outcome.next.inj h
    exact ⟨⟨rfl, rfl, rfl⟩, ⟨rfl, rfl, fun _ => rfl⟩, rfl, rfl, rfl⟩

end Sys2Proof.Machine
end

section
/-! The invariants of the control FSM (43_control_fsm.md R136; 70_reset_and_hazards.md R169 (d)): the interlock, and
that the LED is on while the fan runs. -/

namespace Sys2Proof.Machine

variable {c : Params} {r : Regs}

/-! ## The interlock -/

/-- With Idle latched the interlock is about the fan, the delay and `RSTMAN` alone. -/
theorem Regs.interlocked_of_next_idle (hn : r.next = .idle) (hrelay : r.fan = r.relay)
    (htrem : r.fan = true → r.trem.rem = 0#32) (hman : r.rstman = false) : r.Interlocked :=
  ⟨hrelay, htrem, .inr hn, by simp [hn], by simp [hman], fun _ => hn⟩

/-- `RSTMAN` is set for a latched Reset alone (R123, R132). -/
theorem Regs.Interlocked.rstman_eq_false (h : r.Interlocked) (hn : r.next ≠ .reset) : r.rstman = false := by
  obtain ⟨_, _, _, _, hman, _⟩ := h
  exact Bool.eq_false_iff.mpr fun hm => hn (hman hm)

theorem Regs.IdleTicked.next_eq_reset_iff {p : Ports} {t : Regs} (h : r.IdleTicked p t) :
    t.next = .reset ↔ ¬ t.MotionQualified ∧ t.RunStops p.m := by
  rw [h.next]
  split_ifs with hmotion hstop
  · exact iff_of_false nofun fun ⟨hstill, _⟩ => hstill hmotion
  · exact iff_of_true rfl ⟨hmotion, hstop⟩
  all_goals exact iff_of_false nofun fun ⟨_, h⟩ => hstop h

/-- An Idle tick latches a Reset, and sets `RSTMAN`, only with the fan running. -/
theorem Regs.IdleTicked.interlocked {p : Ports} {t : Regs} (ht : r.IdleTicked p t) (h : r.Interlocked)
    (hn : r.next = .idle) (hstate : t.state = .idle) : t.Interlocked := by
  have hman := h.rstman_eq_false (by simp [hn])
  obtain ⟨hrelay, htrem, _⟩ := h
  refine ⟨?_, fun hf => ?_, .inl hstate, fun hr => ?_, fun hm => ?_, fun hbusy => ?_⟩
  · rw [ht.fan, ht.relay, hrelay]
  · rw [ht.trem, Countdown.advance_rem, htrem (ht.fan ▸ hf), dec32_zero]
  · obtain ⟨_, hf, _⟩ := ht.next_eq_reset_iff.mp hr
    exact hf
  · refine ht.next_eq_reset_iff.mpr (by_contra fun hno => ?_)
    rw [ht.rstman, if_neg hno, hman] at hm
    cases hm
  · rw [ht.wait, endedWait_rem] at hbusy
    exact absurd rfl hbusy

/-- Every handler but Idle's latches Idle, and sets the fan, the relay and the delay together. -/
theorem fullTickRegs_interlocked (h : r.Interlocked) (p : Ports) : (fullTickRegs c p r).Interlocked := by
  obtain ⟨hn, ht⟩ | ⟨hn, hf, ht⟩ | ⟨hstart, ht⟩ | ⟨_, ht⟩ := fullTickRegs_cases c p r
  · exact ht.interlocked h hn ((fullTickRegs_fullyTicked c p r).state.trans hn)
  · have ⟨hrelay, _⟩ := h
    refine Regs.interlocked_of_next_idle ht.next ?_ (by simp [ht.fan]) ?_
    · rw [ht.fan, ht.relay, ← hrelay, hf]
    · exact ht.rstman.trans (h.rstman_eq_false (by simp [hn]))
  · have htrem : (fullTickRegs c p r).trem.rem = 0#32 := by rw [ht.trem]
    refine Regs.interlocked_of_next_idle ht.next (ht.fan.trans ht.relay.symm) (fun _ => htrem) ?_
    exact ht.rstman.trans (h.rstman_eq_false fun hr => by simp [Regs.StartsFan, hr] at hstart)
  · exact Regs.interlocked_of_next_idle ht.next (ht.fan.trans ht.relay.symm) (by simp [ht.fan]) ht.rstman

theorem tickRegs_interlocked (h : r.Interlocked) (p : Ports) : (tickRegs c p r).Interlocked := by
  by_cases hrun : r.TickRuns p.now
  · rw [tickRegs_eq_fullTickRegs hrun]
    exact fullTickRegs_interlocked h p
  · obtain ⟨hrelay, htrem, hone, hreset, hman, hbusy⟩ := h
    have hidle : r.next = .idle := hbusy fun hz => hrun (Regs.tickRuns_of_expired hz p.now)
    rw [tickRegs_waiting c p r hrun]
    exact ⟨hrelay, htrem, hone, hreset, hman, fun _ => hidle⟩

theorem exec_keeps_interlocked {i : Instr} {s t : State} (hclr : i ≠ .clr) (h : exec i s = .next t)
    (hs : s.regs.Interlocked) : t.regs.Interlocked := by
  by_cases htick : i = .tick
  · subst htick
    obtain rfl := Host.Outcome.next.inj h
    exact tickRegs_interlocked hs s.ports
  · obtain ⟨⟨hstate, hnext, _⟩, ⟨hfan, hrelay, _⟩, htrem, hwait, hman⟩ := exec_keeps_fsm htick hclr h
    rw [Regs.Interlocked, hstate, hnext, hfan, hrelay, htrem, hwait, hman]
    exact hs

/-- Settles O47: the reset registers are interlocked, `ERR` is no part of the interlock, and every command keeps it. -/
theorem stepKeepsInterlock : Obligations.StepKeepsInterlock := by
  unfold Obligations.StepKeepsInterlock
  intro s t hs h
  exact step_keeps_while_live (P := fun _ => Regs.Interlocked) h hs (Regs.interlocked_reset _) id
    fun p rest i u hclr _ hx hi => exec_keeps_interlocked (s := { s with ports := p, pending := rest }) hclr hx hi

/-! ## The LED while the fan runs -/

/-- Idle leaves the LED alone while the fan runs; Activate turns both on; after the others the fan is off. -/
theorem fullTickRegs_ledHeld (h : r.LedHeld) (p : Ports) : (fullTickRegs c p r).LedHeld := by
  intro hon
  obtain ⟨_, ht⟩ | ⟨_, _, ht⟩ | ⟨_, ht⟩ | ⟨_, ht⟩ := fullTickRegs_cases c p r
  · rw [ht.fan] at hon
    rw [ht.led_of_fan hon, h hon]
  · rw [ht.fan] at hon
    cases hon
  · exact ht.led
  · rw [ht.fan] at hon
    cases hon

theorem tickRegs_ledHeld (h : r.LedHeld) (p : Ports) : (tickRegs c p r).LedHeld := by
  by_cases hrun : r.TickRuns p.now
  · rw [tickRegs_eq_fullTickRegs hrun]
    exact fullTickRegs_ledHeld h p
  · rw [tickRegs_waiting c p r hrun]
    exact h

theorem exec_keeps_ledHeld {i : Instr} {s t : State} (hclr : i ≠ .clr) (hblink : i ≠ .blink) (h : exec i s = .next t)
    (hs : s.regs.LedHeld) : t.regs.LedHeld := by
  by_cases htick : i = .tick
  · subst htick
    obtain rfl := Host.Outcome.next.inj h
    exact tickRegs_ledHeld hs s.ports
  · obtain ⟨_, ⟨hfan, _, hled⟩, _⟩ := exec_keeps_fsm htick hclr h
    rw [Regs.LedHeld, hfan, hled hblink]
    exact hs

/-- Settles O48: the fan is off in the reset registers, and BLINK alone writes the LED against the fan. -/
theorem stepKeepsLedHeld : Obligations.StepKeepsLedHeld := by
  unfold Obligations.StepKeepsLedHeld
  intro s t hs hno h
  refine step_keeps_while_live (P := fun _ => Regs.LedHeld) h hs (Regs.ledHeld_reset _) id
    fun p rest i u hclr hp hx hl => exec_keeps_ledHeld (s := { s with ports := p, pending := rest }) hclr ?_ hx hl
  rintro rfl
  exact hno p rest hp

end Sys2Proof.Machine
end

section
/-! The phases of a tick (43_control_fsm.md R115 to R118, R138): the wait, the commit, the sample and the one clock. -/

namespace Sys2Proof.Machine

/-! ## Phase W -/

theorem exec_tick (s : State) : exec .tick s = .next (s.withRegs (tickRegs s.cfg s.ports s.regs)) := rfl

/-- Settles O27: a wait that goes on ends the tick, one that ends leaves the tick of the expired `WAIT`. -/
theorem busyTickAdvancesWaitOnly : Obligations.BusyTickAdvancesWaitOnly := by
  unfold Obligations.BusyTickAdvancesWaitOnly
  refine ⟨fun s left hleft hbusy => ?_, fun i s _ => exec_answers_next i s⟩
  subst hleft
  refine ⟨exec_tick_waiting s, fun hover => ?_⟩
  rw [exec_tick, exec_tick, tickRegs_wait_ends _ _ _ hbusy hover, tickRegs_idle _ _ { s.regs with wait := _ } rfl]
  rfl

/-- Settles O51: the bound of `WAIT` is the longer wait, which the elapsed time has reached. -/
theorem waitAlwaysEnds : Obligations.WaitAlwaysEnds := by
  unfold Obligations.WaitAlwaysEnds
  intro s _ ⟨_, _, _, _, _, hwait⟩ hlong
  have hruns : s.regs.TickRuns s.ports.now := (dec32_eq_zero_iff ..).mpr (hwait.trans hlong)
  exact ⟨hruns, _, exec_tick_full hruns, (fullTickRegs_fullyTicked ..).state, fun hno =>
    (Countdown.active_false_iff _).mpr (fullTickRegs_wait_rem_of_armsNoWait _ _ hno)⟩

/-! ## Phase C -/

/-- Settles O28: phase C commits, and the handler that runs sets its bits. -/
theorem tickCommitsNext : Obligations.TickCommitsNext := by
  unfold Obligations.TickCommitsNext
  refine ⟨fun s hruns => ?_, fun i s t htick hclr h => ?_⟩
  · have ht := fullTickRegs_fullyTicked s.cfg s.ports s.regs
    refine ⟨_, exec_tick_full hruns, ht.state, ht.evt.trans ?_⟩
    cases s.regs.next <;> rfl
  · obtain ⟨⟨hstate, _, hevt⟩, _⟩ := exec_keeps_fsm htick hclr h
    exact ⟨hstate, hevt⟩

/-! ## Phase Q -/

section
variable {c : Params} {h : List Byte} (hlen : h.length = c.filterLength) (x : Byte)
include hlen

/-- The stored sample in exact integers (R91, R92). -/
theorem iirBlend_rollingAverage :
    iirBlend c (rollingAverage c h) x = BitVec.ofNat 8
      ((histSum h / c.filterLength * c.iirNum + x.toNat * (c.iirDen - c.iirNum)) / c.iirDen) := by
  rw [iirBlend, rollingAverage_toNat hlen]

/-- The detection of one sample in exact integers (R94). -/
theorem detects_iirBlend_rollingAverage (hnum : c.iirNum ≤ c.iirDen) :
    detects c (iirBlend c (rollingAverage c h) x) (rollingAverage c h) = decide
      (c.threshMult * max c.minThreshold (histSum h / c.filterLength) <
        (histSum h / c.filterLength * c.iirNum + x.toNat * (c.iirDen - c.iirNum)) / c.iirDen) := by
  rw [detects, iirBlend_toNat hnum, rollingAverage_toNat hlen]

end

/-- One push as a narrowing of exact integers (R95). -/
theorem pushBit_eq_ofNat (d : Byte) (b : Bool) : pushBit d b = BitVec.ofNat 8 ((2 * d.toNat + b.toNat) % 256) := by
  rw [← pushBit_toNat, BitVec.ofNat_toNat, BitVec.setWidth_eq]

/-- Settles O29: the sample and the paced push are the same whatever handler runs, and the guard of the Idle handler
reads the pushed `DSR`. -/
theorem tickQualifierPhase : Obligations.TickQualifierPhase := by
  unfold Obligations.TickQualifierPhase
  intro s avg sp det idly ⟨hv, hlen, _⟩ hruns havg hsp hdet hidly
  subst havg hsp hdet hidly
  obtain ⟨_, _, _, _, _, _, _, hnum, _⟩ := s.cfg.valid_bounds hv
  have ht := fullTickRegs_fullyTicked s.cfg s.ports s.regs
  have hdet := ht.det.trans (detects_iirBlend_rollingAverage hlen s.ports.s hnum)
  refine ⟨_, exec_tick_full hruns, ?_, ht.hidx, hdet, fun hgo => ⟨?_, ht.dsr.trans (if_neg hgo)⟩,
    fun hover => ⟨?_, ?_⟩, fun hn hdsr hsdet hbmi => ?_⟩
  · exact ht.hist.trans (by rw [iirBlend_rollingAverage hlen]; rfl)
  · exact ht.idly.trans (by rw [if_neg hgo])
  · exact ht.idly.trans (by rw [if_pos hover]; rfl)
  · calc (fullTickRegs s.cfg s.ports s.regs).dsr
        = pushBit s.regs.dsr (fullTickRegs s.cfg s.ports s.regs).det := ht.dsr.trans (if_pos hover)
      _ = _ := by rw [pushBit_eq_ofNat, hdet]; rfl
  · exact (fullTickRegs_idleTicked s.cfg s.ports hn).next.trans (if_pos ⟨hdsr, hsdet, hbmi⟩)

/-! ## One clock -/

/-- Settles O36: `NOW` is the reference of every advance and of every wait armed; any other arming keeps the reference
of the advance before it. -/
theorem oneClockSamplePerTick : Obligations.OneClockSamplePerTick := by
  unfold Obligations.OneClockSamplePerTick
  refine ⟨fun s _ hwaits => ⟨_, exec_tick_waiting s hwaits, rfl⟩, fun s hruns => ?_⟩
  have ht := fullTickRegs_fullyTicked s.cfg s.ports s.regs
  refine ⟨_, exec_tick_full hruns, ht.trem_ref, ht.frem_ref, ht.sdet_ref, ht.bmi_ref, congrArg Countdown.ref ht.idly,
    ht.blk_ref, fun hactive => ?_⟩
  rw [State.withRegs_regs] at hactive ⊢
  obtain hended | harmed := ht.wait
  · rw [hended] at hactive ⊢
    have hbusy : s.regs.wait.rem ≠ 0#32 := hactive.resolve_left (not_not_intro (endedWait_rem ..))
    rw [endedWait, if_neg hbusy]
  · exact harmed

end Sys2Proof.Machine
end

section
/-! The handlers of a full tick (43_control_fsm.md R122 to R132), and the manual activation of R139, which runs three of
them. -/

namespace Sys2Proof.Machine

/-- Settles O30: the Idle handler is the chain of its guards, and every other handler latches Idle. -/
theorem idleTickLatchesFirstGuard : Obligations.IdleTickLatchesFirstGuard := by
  unfold Obligations.IdleTickLatchesFirstGuard
  refine ⟨fun s hruns hn => ⟨_, exec_tick_full hruns, ?_⟩, fun s hruns hn => ?_⟩
  · obtain ⟨hidle, ht⟩ | ⟨_, _, ht⟩ | ⟨_, ht⟩ | ⟨_, ht⟩ := fullTickRegs_cases s.cfg s.ports s.regs
    · exact absurd hidle hn
    all_goals exact ht.next
  · have hall := fullTickRegs_fullyTicked s.cfg s.ports s.regs
    have ht := fullTickRegs_idleTicked s.cfg s.ports hn
    have hevt : handlerEvents s.regs.next s.regs.fan = 0#3 := by rw [hn]; rfl
    have hstops : (fullTickRegs s.cfg s.ports s.regs).RunStops s.ports.m ↔
        s.regs.fan = true ∧ (s.ports.m = true ∨ (fullTickRegs s.cfg s.ports s.regs).frem.rem = 0#32) := by
      rw [Regs.RunStops, ht.fan]
    refine ⟨_, exec_tick_full hruns, hall.state.trans hn, hall.evt.trans hevt, ht.trem, ht.frem, ht.sdet, ht.bmi,
      ht.fan, ht.relay, fullTickRegs_wait_rem_of_armsNoWait _ _ (.inl hn), fun hmotion => ⟨?_, ?_⟩,
      fun hstill => ⟨fun hstop => ⟨?_, ?_⟩, fun hgo => ⟨?_, ?_⟩⟩⟩
    · exact ht.next.trans (if_pos hmotion)
    · exact ht.rstman.trans (if_neg fun ⟨hstill, _⟩ => hstill hmotion)
    · exact ht.next.trans ((if_neg hstill).trans (if_pos (hstops.mpr hstop)))
    · exact ht.rstman.trans (if_pos ⟨hstill, hstops.mpr hstop⟩)
    · exact ht.rstman.trans (if_neg fun ⟨_, hstop⟩ => hgo (hstops.mp hstop))
    · exact ht.next.trans ((if_neg hstill).trans (if_neg (mt hstops.mp hgo)))

/-- Settles O31: both forms of the Detected handler arm `SDET`; the form with the fan off starts the delay. -/
theorem detectedTickArmsDelay : Obligations.DetectedTickArmsDelay := by
  unfold Obligations.DetectedTickArmsDelay
  refine ⟨fun s hruns hn => ⟨_, exec_tick_full hruns, ?_⟩, fun s hruns hn hf => ?_⟩
  · have hall := fullTickRegs_fullyTicked s.cfg s.ports s.regs
    rw [State.withRegs_regs, hall.evt, hn]
    cases hf : s.regs.fan with
    | true => exact ⟨rfl, (fullTickRegs_fanStarted s.cfg s.ports (.inr ⟨hn, hf⟩)).sdet.trans (if_pos hn)⟩
    | false => exact ⟨rfl, (fullTickRegs_delayStarted s.cfg s.ports hn hf).sdet⟩
  · have hall := fullTickRegs_fullyTicked s.cfg s.ports s.regs
    have ht := fullTickRegs_delayStarted s.cfg s.ports hn hf
    have hevt : handlerEvents s.regs.next s.regs.fan = 0b001#3 := by rw [hn, hf]; rfl
    have hwait := fullTickRegs_wait_rem_of_armsNoWait s.cfg s.ports (.inr (.inl ⟨hn, hf⟩))
    exact ⟨_, exec_tick_full hruns, hall.state.trans hn, ht.next, hall.evt.trans hevt, ht.sdet, ht.trem, ht.frem,
      ht.bmi, ht.fan, ht.relay, hwait, ht.rstman⟩

/-- Settles O32: the Activate handler after the common part of Detected's. -/
theorem detectedTickChainsActivate : Obligations.DetectedTickChainsActivate := by
  unfold Obligations.DetectedTickChainsActivate
  intro s hruns hn hf
  have hall := fullTickRegs_fullyTicked s.cfg s.ports s.regs
  have ht := fullTickRegs_fanStarted s.cfg s.ports (.inr ⟨hn, hf⟩)
  have hevt : handlerEvents s.regs.next s.regs.fan = 0b011#3 := by rw [hn, hf]; rfl
  exact ⟨_, exec_tick_full hruns, hall.state.trans hn, ht.next, hall.evt.trans hevt, ht.sdet.trans (if_pos hn), ht.frem,
    ht.trem, ht.bmi, ht.fan, ht.relay, ht.led, ht.wait, ht.rstman⟩

/-- Settles O33: the Activate handler, committed or chained. -/
theorem activateTickStartsFan : Obligations.ActivateTickStartsFan := by
  unfold Obligations.ActivateTickStartsFan
  intro s hruns hstart
  have hall := fullTickRegs_fullyTicked s.cfg s.ports s.regs
  have ht := fullTickRegs_fanStarted s.cfg s.ports hstart
  have hevt : handlerEvents s.regs.next s.regs.fan = if s.regs.next = .activate then 0b010#3 else 0b011#3 := by
    obtain hn | ⟨hn, hf⟩ := hstart
    · rw [hn]; rfl
    · rw [hn, hf]; rfl
  exact ⟨_, exec_tick_full hruns, hall.state, ht.next, hall.evt.trans hevt, ht.fan, ht.relay, ht.led, ht.frem, ht.trem,
    fun hn => ht.sdet.trans (if_neg (by simp [hn])), ht.bmi, ht.wait, ht.rstman⟩

/-- Settles O34: the Reset handler, whose wait is told by the `RSTMAN` it finds. -/
theorem resetTickStopsFan : Obligations.ResetTickStopsFan := by
  unfold Obligations.ResetTickStopsFan
  intro s hruns hn
  have hall := fullTickRegs_fullyTicked s.cfg s.ports s.regs
  have ht := fullTickRegs_fanStopped s.cfg s.ports hn
  have hevt : handlerEvents s.regs.next s.regs.fan = 0b100#3 := by rw [hn]; rfl
  exact ⟨_, exec_tick_full hruns, hall.state.trans hn, ht.next, hall.evt.trans hevt, ht.fan, ht.relay, ht.led,
    ht.rstman, ht.frem, ht.trem, ht.bmi, ht.sdet, fun hm => ht.wait.trans (if_pos hm),
    fun hm => fullTickRegs_wait_rem_of_armsNoWait _ _ (.inr (.inr ⟨hn, hm⟩))⟩

/-- Settles O38: an Idle tick that latches Activate, the Activate tick, and an Idle tick once its wait is over. -/
theorem manualActivation : Obligations.ManualActivation := by
  unfold Obligations.ManualActivation
  intro s p2 p3 _ hwait hn hf hm hlong
  have h1 := fullTickRegs_idleTicked s.cfg s.ports hn
  refine ⟨_, exec_tick_full (Regs.tickRuns_of_expired hwait _), h1.relay, fun hq => ?_⟩
  rw [State.withRegs_regs] at hq ⊢
  have hstop : ¬ (fullTickRegs s.cfg s.ports s.regs).RunStops s.ports.m := by simp [Regs.RunStops, h1.fan, hf]
  have hnext := h1.next
  rw [if_neg hq, if_neg hstop, if_pos (.inl ⟨hm, hf⟩)] at hnext
  have hruns2 : (fullTickRegs s.cfg s.ports s.regs).TickRuns p2.now :=
    Regs.tickRuns_of_expired (by rw [h1.wait, endedWait_rem]) _
  generalize fullTickRegs s.cfg s.ports s.regs = r1 at hnext hruns2 ⊢
  have h2 := fullTickRegs_fanStarted s.cfg p2 (.inl hnext)
  have hruns3 : (fullTickRegs s.cfg p2 r1).TickRuns p3.now := by
    rw [Regs.TickRuns, h2.wait, dec32_eq_zero_iff]
    exact (duration_le _).trans hlong
  have h3 := fullTickRegs_idleTicked s.cfg p3 h2.next
  have hstate := (fullTickRegs_fullyTicked s.cfg p3 (fullTickRegs s.cfg p2 r1)).state
  exact ⟨hnext, _, _, exec_tick_full (s := { s with regs := r1, ports := p2 }) hruns2, h2.relay, h2.next, h2.frem,
    h2.wait, exec_tick_full (s := { s with regs := fullTickRegs s.cfg p2 r1, ports := p3 }) hruns3,
    hstate.trans h2.next, h3.fan.trans h2.fan, h3.relay.trans h2.relay, (h3.led_of_fan h2.fan).trans h2.led⟩

end Sys2Proof.Machine
end

section
/-! What a tick leaves alone and what it does not read (43_control_fsm.md R113, R133, R134). -/

namespace Sys2Proof.Machine

/-! ## What is left alone -/

/-- Settles O35: a busy tick writes `WAIT` alone; no phase of a full one writes `RESULT`, `ERR` or another history
entry, and no handler but those that arm a wait writes `WAIT`. -/
theorem tickFrame : Obligations.TickFrame := by
  unfold Obligations.TickFrame
  intro s t h
  by_cases hruns : s.regs.TickRuns s.ports.now
  · obtain rfl := Host.Outcome.next.inj ((exec_tick_full hruns).symm.trans h)
    have ht := fullTickRegs_fullyTicked s.cfg s.ports s.regs
    refine ⟨ht.result, ht.err, rfl, rfl, rfl, rfl, rfl, ?_, fun j hj => ?_, fun hf hn => ?_, fun hz hno => ?_⟩
    · rw [State.withRegs_regs, ht.hist, List.length_set]
    · rw [State.withRegs_regs, ht.hist, List.getElem?_set_ne hj.symm]
    · exact (fullTickRegs_idleTicked s.cfg s.ports hn).led_of_fan hf
    · rw [State.withRegs_regs, fullTickRegs_wait_of_armsNoWait _ _ hno, endedWait, if_pos hz]
  · obtain rfl := Host.Outcome.next.inj ((exec_tick_waiting s hruns).symm.trans h)
    exact ⟨rfl, rfl, rfl, rfl, rfl, rfl, rfl, rfl, fun _ _ => rfl, fun _ _ => rfl,
      fun hz => absurd (Regs.tickRuns_of_expired hz _) hruns⟩

/-- Settles O40: Idle, Detected with the fan off, a busy tick and every command but TICK and CLR keep the relay. -/
theorem relayOwnedByFsm : Obligations.RelayOwnedByFsm := by
  unfold Obligations.RelayOwnedByFsm
  intro i s t h hne
  by_cases hclr : i = .clr
  · exact .inl hclr
  by_cases htick : i = .tick
  · subst htick
    by_cases hruns : s.regs.TickRuns s.ports.now
    · obtain rfl := Host.Outcome.next.inj ((exec_tick_full hruns).symm.trans h)
      refine .inr ⟨rfl, hruns, ?_⟩
      obtain ⟨_, ht⟩ | ⟨_, _, ht⟩ | ⟨hn | ⟨hn, hf⟩, ht⟩ | ⟨hn, ht⟩ := fullTickRegs_cases s.cfg s.ports s.regs
      · exact absurd ht.relay hne
      · exact absurd ht.relay hne
      · exact .inl ⟨hn, ht.relay⟩
      · exact .inr (.inl ⟨hn, hf, ht.relay⟩)
      · exact .inr (.inr ⟨hn, ht.relay⟩)
    · obtain rfl := Host.Outcome.next.inj ((exec_tick_waiting s hruns).symm.trans h)
      exact absurd rfl hne
  · obtain ⟨_, ⟨_, hrelay, _⟩, _⟩ := exec_keeps_fsm htick hclr h
    exact absurd hrelay hne

/-! ## The button -/

/-- The phases before the handler do not read the button. -/
theorem beforeHandler_button (c : Params) (p : Ports) (r : Regs) (b : Bool) :
    beforeHandler c { p with m := b } r = beforeHandler c p r := rfl

/-- Of the handlers, Idle's alone reads the button. -/
theorem phaseHandler_button {r : Regs} (h : r.state ≠ .idle) (c : Params) (now : Word) (qual expired m b : Bool) :
    phaseHandler c now qual expired b r = phaseHandler c now qual expired m r := by
  unfold phaseHandler
  cases hs : r.state with
  | idle => exact absurd hs h
  | detected | activate | reset => rfl

theorem fullTickRegs_button {r : Regs} (hn : r.next ≠ .idle) (c : Params) (p : Ports) (b : Bool) :
    fullTickRegs c { p with m := b } r = fullTickRegs c p r := by
  rw [fullTickRegs, fullTickRegs, tickPhases_eq, tickPhases_eq, beforeHandler_button]
  exact phaseHandler_button (by rwa [beforeHandler_state]) ..

/-- Settles O43: by the handler of the committed state, or by the wait that goes on. -/
theorem buttonReadInIdleOnly : Obligations.ButtonReadInIdleOnly := by
  unfold Obligations.ButtonReadInIdleOnly
  intro s b h
  have hregs : tickRegs s.cfg s.ports s.regs = tickRegs s.cfg { s.ports with m := b } s.regs := by
    by_cases hruns : s.regs.TickRuns s.ports.now
    · rw [tickRegs_eq_fullTickRegs hruns, tickRegs_eq_fullTickRegs (p := { s.ports with m := b }) hruns]
      exact (fullTickRegs_button (h.resolve_right (not_not_intro hruns)) ..).symm
    · exact tickRegs_congr_now_of_waiting s.cfg s.regs rfl hruns
  obtain ⟨t, ht, hb⟩ := exec_tick_ignoresChange hregs
  obtain ⟨_, hports, _⟩ := exec_frame ht
  exact ⟨t, ht, hports.symm ▸ hb⟩

end Sys2Proof.Machine
end

section
/-! Housekeeping (44_housekeeping.md R140, R141, R144): NOP, CLR, and what writes `ERR`: an illegal word sets it, and no
command but CLR changes it. -/

namespace Sys2Proof.Machine

/-! ## NOP, CLR and the commands that keep `ERR` -/

/-- No command but CLR writes `ERR` (R141); for TICK that is part of its frame. -/
theorem exec_keeps_err {i : Instr} {s t : State} (hclr : i ≠ .clr) (h : exec i s = .next t) :
    t.regs.err = s.regs.err := by
  cases i with
  | clr => exact absurd rfl hclr
  | tick =>
    obtain ⟨_, herr, _⟩ := tickFrame s t h
    exact herr
  | blink =>
    obtain rfl := Host.Outcome.next.inj h
    simp [blinkTick_eq]
  | nop | wsub | tdec | qsample | dpush | dpushd =>
    obtain rfl := Host.Outcome.next.inj h
    rfl

/-- Settles O11: NOP answers the state it is given. -/
theorem nopChangesNothing : Obligations.NopChangesNothing := by
  unfold Obligations.NopChangesNothing
  exact ⟨rfl, fun _ => rfl⟩

/-- Settles O12: CLR is the assignment of the reset registers, and the other commands keep `ERR`. -/
theorem clrResetsEveryRegister : Obligations.ClrResetsEveryRegister := by
  unfold Obligations.ClrResetsEveryRegister
  exact ⟨rfl, fun _ => rfl, fun _ _ _ => exec_keeps_err⟩

/-! ## Illegal words -/

/-- A word above 0x08 is illegal (R69): by its reserved bits, or else by its opcode, which is then the word's value. -/
theorem exists_decode_eq_error {w : Byte} (h : 8 < w.toNat) : ∃ e, decode w = .error e := by
  by_cases hrsv : fieldRsv w = 0#4
  · have hhigh : w.toNat / 16 = 0 := by rw [← fieldRsv_toNat, hrsv, BitVec.toNat_zero]
    have hop : 8 < (fieldOp w).toNat := by
      rw [fieldOp_toNat]
      omega
    exact ⟨_, (decode_of_fieldRsv_eq hrsv).trans (decodeOp_eq_error hop)⟩
  · exact ⟨_, decode_of_fieldRsv_ne hrsv⟩

/-- A block past its reset answers an illegal word by raising `IllegalCommand` (R144). -/
theorem step_illegal_live {s : State} {w : Byte} {p : Ports} {rest : List HostEvent} {e : DecodeError}
    (hv : s.cfg.valid = true) (hl : s.live = true) (hp : s.pending = .command w p :: rest)
    (hd : decode w = .error e) :
    step s = .next (raiseIllegalCommand w { s with ports := p, pending := rest }) := by
  have ha : accepts s.live w = true := by simp [accepts, hl]
  rw [step_command_accepted hv hp ha, runWord_of_decode_error hd]

/-- A step that clears `ERR` took CLR, the `RST` input or a power-on (R141, R144, R161). -/
theorem step_keeps_err_set {s t : State} (h : step s = .next t) (herr : s.regs.err = true)
    (hclr : ∀ p rest, s.pending ≠ .command 0x08#8 p :: rest) (hrst : ∀ rest, s.pending ≠ .rst :: rest)
    (hpower : ∀ rest, s.pending ≠ .powerOn :: rest) : t.regs.err = true := by
  obtain ⟨_, ⟨_, rfl⟩ | ⟨w, p, rest, i, hp, _, hd, hx⟩ | ⟨w, p, rest, e, _, _, _, rfl⟩ | ⟨rest, hp, _⟩ |
    ⟨rest, hp, _⟩⟩ := step_next_cases h
  · exact herr
  · have hi : i ≠ .clr := by
      rintro rfl
      rw [← encode_of_decode_ok hd] at hp
      exact hclr p rest hp
    exact (exec_keeps_err hi hx).trans herr
  · rfl
  · exact absurd hp (hrst rest)
  · exact absurd hp (hpower rest)

/-- Settles O6: a word above 0x08 decodes to no command and raises `IllegalCommand`, and by the cases of a step the
three resets alone clear `ERR`. -/
theorem illegalWordSetsErrOnly : Obligations.IllegalWordSetsErrOnly := by
  unfold Obligations.IllegalWordSetsErrOnly
  refine ⟨fun s w p rest hv hl hp hw => ?_, fun _ _ _ herr h => step_keeps_err_set h herr⟩
  obtain ⟨e, hd⟩ := exists_decode_eq_error hw
  rw [step_illegal_live hv hl hp hd, raiseIllegalCommand_eq]

end Sys2Proof.Machine
end

section
/-! When a step stops (60_exceptions.md R145, R157; 10_state.md R49): only a command presented before the first reset
stops a block of an admitted configuration, so a block past its reset goes on for as long as the power stays on. -/

namespace Sys2Proof.Machine

/-! ## When a step stops, and what it leaves -/

theorem accepts_of_live {live : Bool} (hl : live = true) (w : Byte) : accepts live w = true := by
  simp [accepts, hl]

/-- The one fault a step can end in: a command that the block does not accept (R49). -/
theorem step_fault_cases {s : State} {f : Fault} (h : step s = .fault f) :
    s.cfg.valid = true ∧ ∃ w p rest, s.pending = .command w p :: rest ∧ accepts s.live w = false := by
  by_cases hv : s.cfg.valid = true
  case neg =>
    cases ((step_refused_badConfiguration_iff s).mpr hv).symm.trans h
  refine ⟨hv, ?_⟩
  cases hp : s.pending with
  | nil =>
    cases (step_waiting hv hp).symm.trans h
  | cons e rest =>
    cases e with
    | command w p =>
      cases ha : accepts s.live w with
      | false => exact ⟨w, p, rest, rfl, ha⟩
      | true =>
        obtain ⟨t, ht⟩ := runWord_answers_next w { s with ports := p, pending := rest }
        rw [step_command_accepted hv hp ha, ht] at h
        cases h
    | rst => cases (step_rst hv hp).symm.trans h
    | powerOn => cases (step_powerOn hv hp).symm.trans h

/-- A block past its reset accepts every word, so every step of it goes on. -/
theorem step_answers_next_of_live {s : State} (hv : s.cfg.valid = true) (hl : s.live = true) :
    ∃ t, step s = .next t := by
  cases ho : step s with
  | next t => exact ⟨t, rfl⟩
  | fault f =>
    obtain ⟨_, w, _, _, _, ha⟩ := step_fault_cases ho
    rw [accepts_of_live hl] at ha
    cases ha
  | refused x =>
    rw [step_eq_acceptNext hv] at ho
    exact absurd ho (acceptNext_ne_refused s x)

/-- A step takes the oldest thing the host presents and adds none (R59). -/
theorem step_pending {s t : State} (h : step s = .next t) : t.pending = s.pending.tail := by
  obtain ⟨_, ⟨hp, rfl⟩ | ⟨w, p, rest, i, hp, _, _, hx⟩ | ⟨w, p, rest, e, hp, _, _, rfl⟩ | ⟨rest, hp, rfl⟩ |
    ⟨rest, hp, rfl⟩⟩ := step_next_cases h
  · rw [hp, List.tail_nil]
  · obtain ⟨_, _, hpending, _⟩ := exec_frame hx
    rw [hpending, hp, List.tail_cons]
  all_goals rw [hp]; rfl

theorem exec_keeps_live {i : Instr} {s t : State} (hl : s.live = true) (h : exec i s = .next t) : t.live = true := by
  by_cases hclr : i = .clr
  · subst hclr
    obtain rfl := Host.Outcome.next.inj h
    rfl
  · obtain ⟨_, _, _, _, hlive⟩ := exec_frame h
    exact (hlive hclr).trans hl

/-- The loss of power alone takes a block back before its first reset (R49, R161). -/
theorem step_keeps_live {s t : State} (hl : s.live = true) (hpower : .powerOn ∉ s.pending) (h : step s = .next t) :
    t.live = true := by
  obtain ⟨_, ⟨_, rfl⟩ | ⟨w, p, rest, i, _, _, _, hx⟩ | ⟨w, p, rest, e, _, _, _, rfl⟩ | ⟨rest, _, rfl⟩ |
    ⟨rest, hp, _⟩⟩ := step_next_cases h
  · exact hl
  · exact exec_keeps_live (s := { s with ports := p, pending := rest }) hl hx
  · exact hl
  · rfl
  · exact absurd (hp ▸ List.mem_cons_self) hpower

/-! ## Runs -/

/-- Where every step from a state with a property goes on and keeps it, so does every run. -/
theorem run_next_of_invariant {M : Host.Core} {P : M.State → Prop}
    (hstep : ∀ s, P s → ∃ t, M.step s = .next t ∧ P t) (n : Nat) {s : M.State} (hs : P s) :
    ∃ t, M.run n s = .next t ∧ P t := by
  induction n generalizing s with
  | zero => exact ⟨s, rfl, hs⟩
  | succ n ih =>
    obtain ⟨t, ht, hPt⟩ := hstep s hs
    rw [run_succ_of_step_next n ht]
    exact ih hPt

/-- A state of the right shape, after a reset, whose power stays on: the invariant of R157. -/
structure State.StaysPowered (s : State) : Prop where
  wf : s.Wf
  live : s.live = true
  noPowerOn : .powerOn ∉ s.pending

theorem State.StaysPowered.step {s : State} (h : s.StaysPowered) : ∃ t, step s = .next t ∧ t.StaysPowered := by
  have ⟨hv, _⟩ := h.wf
  obtain ⟨t, ht⟩ := step_answers_next_of_live hv h.live
  obtain ⟨hwf, _⟩ := stepKeepsShape s t h.wf ht
  refine ⟨t, ht, hwf, step_keeps_live h.live h.noPowerOn ht, fun hmem => h.noPowerOn ?_⟩
  rw [step_pending ht] at hmem
  exact List.mem_of_mem_tail hmem

/-- Settles O52: a step of a powered block past its reset goes on to such a block, so by induction a run does. -/
theorem noCommandSequenceStopsBlock : Obligations.NoCommandSequenceStopsBlock := by
  unfold Obligations.NoCommandSequenceStopsBlock
  intro n s hwf hl hpower
  obtain ⟨t, hrun, ht⟩ := run_next_of_invariant (M := core) (fun _ => State.StaysPowered.step) n ⟨hwf, hl, hpower⟩
  exact ⟨t, hrun, ht.wf⟩

end Sys2Proof.Machine
end

section
/-! `ERR` is an input to no rule (60_exceptions.md R150): every operation on the registers commutes with setting `ERR`,
so steps from states that differ in `ERR` alone answer states that differ in `ERR` alone. -/

namespace Sys2Proof.Machine

section
variable (c : Params) (p : Ports) (r : Regs) (b : Bool)

/-! ## The phases and handlers of a tick -/

theorem phaseQualifier_withErr (now : Word) (x : Byte) :
    phaseQualifier c now x (r.withErr b) = (phaseQualifier c now x r).withErr b := by
  rw [phaseQualifier, phaseQualifier, pacedPush_eq, pacedPush_eq]
  rfl

theorem blinkTick_withErr (period now : Word) :
    blinkTick c period now (r.withErr b) = (blinkTick c period now r).withErr b := by
  rw [blinkTick_eq, blinkTick_eq]
  rfl

theorem phaseBlink_withErr (now : Word) : phaseBlink c now (r.withErr b) = (phaseBlink c now r).withErr b := by
  rw [phaseBlink_eq, phaseBlink_eq]
  rfl

theorem beforeHandler_withErr : beforeHandler c p (r.withErr b) = (beforeHandler c p r).withErr b := by
  have hcommit : phaseCommit (r.withErr b) = (phaseCommit r).withErr b := rfl
  have htimers (q : Regs) : phaseTimers p.now (q.withErr b) = (phaseTimers p.now q).withErr b := rfl
  rw [beforeHandler, beforeHandler, hcommit, phaseQualifier_withErr, htimers, phaseBlink_withErr]

theorem idleHandler_withErr (qual expired m : Bool) :
    idleHandler qual expired m (r.withErr b) = (idleHandler qual expired m r).withErr b := by
  rw [idleHandler_eq, idleHandler_eq]
  rfl

theorem detectedHandler_withErr (now : Word) :
    detectedHandler c now (r.withErr b) = (detectedHandler c now r).withErr b := by
  cases hf : r.fan with
  | false =>
    rw [detectedHandler_fan_off c now r hf, detectedHandler_fan_off c now (r.withErr b) hf]
    rfl
  | true =>
    rw [detectedHandler_fan_on c now r hf, detectedHandler_fan_on c now (r.withErr b) hf]
    rfl

theorem phaseHandler_withErr (now : Word) (qual expired m : Bool) :
    phaseHandler c now qual expired m (r.withErr b) = (phaseHandler c now qual expired m r).withErr b := by
  have hstate : (r.withErr b).state = r.state := rfl
  unfold phaseHandler
  rw [hstate]
  cases r.state with
  | idle => exact idleHandler_withErr r b qual expired m
  | detected => exact detectedHandler_withErr c r b now
  | activate | reset => rfl

theorem tickPhases_withErr : tickPhases c p (r.withErr b) = (tickPhases c p r).withErr b := by
  rw [tickPhases_eq, tickPhases_eq, beforeHandler_withErr, phaseHandler_withErr]
  rfl

theorem tickRegs_withErr : tickRegs c p (r.withErr b) = (tickRegs c p r).withErr b := by
  by_cases hrun : r.TickRuns p.now
  · rw [tickRegs_runs c p r hrun, tickRegs_runs c p (r.withErr b) hrun]
    exact tickPhases_withErr c p (afterWait r p.now) b
  · rw [tickRegs_waiting c p r hrun, tickRegs_waiting c p (r.withErr b) hrun]
    rfl

end

/-! ## Commands and steps -/

/-- The state with `ERR` set to `b` and nothing else changed. -/
def State.withErr (s : State) (b : Bool) : State := { s with regs := s.regs.withErr b }

/-- Every command but CLR, which clears `ERR` (R141), carries a changed `ERR` over and does nothing else with it. -/
theorem exec_withErr {i : Instr} {s t : State} (hclr : i ≠ .clr) (h : exec i s = .next t) (b : Bool) :
    exec i (s.withErr b) = .next (t.withErr b) := by
  cases i with
  | clr => exact absurd rfl hclr
  | tick =>
    obtain rfl := Host.Outcome.next.inj h
    exact congrArg (fun r => Host.Outcome.next (s.withRegs r)) (tickRegs_withErr s.cfg s.ports s.regs b)
  | blink =>
    obtain rfl := Host.Outcome.next.inj h
    exact congrArg (fun r => Host.Outcome.next (s.withRegs (r.setResult r.blk.rem)))
      (blinkTick_withErr s.cfg s.regs b s.opA s.opNow)
  | nop | wsub | tdec | qsample | dpush | dpushd =>
    obtain rfl := Host.Outcome.next.inj h
    rfl

/-- A step that goes on goes on whatever `ERR` is, to a state that differs in `ERR` alone. -/
theorem step_withErr_next {s t : State} (h : step s = .next t) (b : Bool) :
    ∃ b', step (s.withErr b) = .next (t.withErr b') := by
  obtain ⟨hv, ⟨hp, rfl⟩ | ⟨w, p, rest, i, hp, ha, hd, hx⟩ | ⟨w, p, rest, e, hp, ha, hd, rfl⟩ | ⟨rest, hp, rfl⟩ |
    ⟨rest, hp, rfl⟩⟩ := step_next_cases h
  · exact ⟨b, step_waiting hv hp⟩
  · rw [step_command_accepted (s := s.withErr b) hv hp ha, runWord_of_decode_ok hd]
    by_cases hclr : i = .clr
    · subst hclr
      exact ⟨t.regs.err, hx⟩
    · exact ⟨b, exec_withErr hclr hx b⟩
  · rw [step_command_accepted (s := s.withErr b) hv hp ha, runWord_of_decode_error hd]
    exact ⟨true, rfl⟩
  · exact ⟨(resetBlock s).regs.err, step_rst (s := s.withErr b) hv hp⟩
  · exact ⟨(powerOnBlock s).regs.err, step_powerOn (s := s.withErr b) hv hp⟩

/-- A step that stops the block stops it whatever `ERR` is. -/
theorem step_withErr_fault {s : State} {f : Fault} (h : step s = .fault f) (b : Bool) :
    step (s.withErr b) = .fault f := by
  obtain ⟨hv, w, p, rest, hp, ha⟩ := step_fault_cases h
  rw [← h, step_command_not_accepted hv hp ha, step_command_not_accepted (s := s.withErr b) hv hp ha]

/-- Settles O44: the acceptance of what the host presents does not read `ERR`, and every command commutes with setting
it but CLR, which gives it its reset value. -/
theorem errIsNoInput : Obligations.ErrIsNoInput := by
  unfold Obligations.ErrIsNoInput
  refine fun s b => ⟨fun t h => ?_, fun f h => step_withErr_fault h b⟩
  obtain ⟨b', ht⟩ := step_withErr_next h b
  exact ⟨t.withErr b', ht, rfl⟩

end Sys2Proof.Machine
end

section
/-! The reset sources (70_reset_and_hazards.md R160, R161, R163; 10_state.md R47, R49): the CLR word, accepted before
the first reset too (log entry 5), runs the assignment of the `RST` input. -/

namespace Sys2Proof.Machine

/-! ## CLR's word -/

/-- CLR's word is accepted whether or not a reset has been applied (log entry 5). -/
theorem accepts_clr (live : Bool) : accepts live 0x08#8 = true := by
  cases live <;> rfl

/-- A step that takes CLR's word performs the assignment of the `RST` input (R161), on the ports presented. -/
theorem step_clr {s : State} {p : Ports} {rest : List HostEvent} (hv : s.cfg.valid = true)
    (hp : s.pending = .command 0x08#8 p :: rest) :
    step s = .next (resetBlock { s with ports := p, pending := rest }) := by
  rw [step_command_accepted hv hp (accepts_clr s.live)]
  exact runWord_of_decode_ok (decode_encode .clr) _

/-! ## Any reset -/

/-- What the host does to reset the block (R161): the `RST` input, or CLR with any port values. -/
def HostEvent.Resets (e : HostEvent) : Prop := e = .rst ∨ ∃ p, e = .command 0x08#8 p

/-- A step that takes a reset leaves a live block with the reset registers, whatever the registers held (R160, R161). -/
theorem step_of_resets {s : State} {e : HostEvent} {rest : List HostEvent} (he : e.Resets)
    (hv : s.cfg.valid = true) (hp : s.pending = e :: rest) :
    ∃ t, step s = .next t ∧ t.live = true ∧ t.regs = Regs.reset s.cfg.filterLength ∧ t.pending = rest := by
  obtain rfl | ⟨p, rfl⟩ := he
  · exact ⟨_, step_rst hv hp, rfl, rfl, rfl⟩
  · exact ⟨_, step_clr hv hp, rfl, rfl, rfl⟩

/-- Settles O9: CLR and `RST` are one assignment, power-on leaves a block that either of them resets, and a block with
nothing presented waits. -/
theorem resetSourcesAgree : Obligations.ResetSourcesAgree := by
  unfold Obligations.ResetSourcesAgree
  refine ⟨fun _ _ _ hv => step_clr hv, fun _ _ hv => step_rst hv, fun s p e rest hv hp he => ?_,
    fun _ hv => step_waiting hv⟩
  have hresets : e.Resets := he.imp_right fun h => ⟨p, h⟩
  obtain ⟨u, hu, hlive, hregs, hrest⟩ :=
    step_of_resets hresets (s := powerOnBlock { s with pending := e :: rest }) hv rfl
  exact ⟨_, u, step_powerOn hv hp, rfl, hu, hlive, hregs, hrest⟩

/-- Settles O10: the reset registers are R47's values, and `RST` and CLR leave them. -/
theorem resetRegisterValues : Obligations.ResetRegisterValues := by
  unfold Obligations.ResetRegisterValues
  refine ⟨fun _ => rfl, rfl, rfl, rfl, fun s rest hv hp => ?_, fun s p rest hv hp => ?_⟩
  · exact ⟨_, step_rst hv hp, rfl⟩
  · exact ⟨_, step_clr hv hp, rfl⟩

end Sys2Proof.Machine
end

section
/-! The first TICK after a reset (70_reset_and_hazards.md R162): a full tick that commits Idle, over an empty history,
an empty `DSR` and expired countdowns. -/

namespace Sys2Proof.Machine

theorem histSum_replicate_zero (n : Nat) : histSum (List.replicate n 0#8) = 0 := by
  simp [histSum]

/-- A push onto the `DSR` that reset leaves gives the bit pushed alone (R95). -/
theorem pushBit_zero (b : Bool) : pushBit 0#8 b = (BitVec.ofBool b).setWidth 8 := by
  cases b <;> rfl

/-- One push after reset does not make the eight ones of `QUAL` (R96, R162). -/
theorem setWidth_ofBool_ne_0xFF (b : Bool) : (BitVec.ofBool b).setWidth 8 ≠ 0xFF#8 := by
  cases b <;> decide

section
variable (c : Params) (p : Ports)

/-- The registers the first TICK after a reset leaves. -/
def firstTickRegs : Regs := fullTickRegs c p (Regs.reset c.filterLength)

theorem exec_tick_reset : exec .tick { State.reset with regs := Regs.reset c.filterLength, cfg := c, ports := p } =
    .next { State.reset with regs := firstTickRegs c p, cfg := c, ports := p } :=
  exec_tick_full (s := { State.reset with regs := Regs.reset c.filterLength, cfg := c, ports := p })
    (Regs.tickRuns_of_expired rfl p.now)

theorem firstTickRegs_fullyTicked : (Regs.reset c.filterLength).FullyTicked c p (firstTickRegs c p) :=
  fullTickRegs_fullyTicked c p (Regs.reset c.filterLength)

theorem firstTickRegs_idleTicked : (Regs.reset c.filterLength).IdleTicked p (firstTickRegs c p) :=
  fullTickRegs_idleTicked c p rfl

/-- The average over the empty history is 0, so the blend is the sample's share alone (R91, R92). -/
theorem firstTickRegs_hist : (firstTickRegs c p).hist = (List.replicate c.filterLength 0#8).set 0
    (BitVec.ofNat 8 (p.s.toNat * (c.iirDen - c.iirNum) / c.iirDen)) := by
  rw [(firstTickRegs_fullyTicked c p).hist, Regs.reset, iirBlend_rollingAverage List.length_replicate,
    histSum_replicate_zero, Nat.zero_div, Nat.zero_mul, Nat.zero_add]

/-- The threshold over the empty history is the minimum's (R94). -/
theorem firstTickRegs_det (hnum : c.iirNum ≤ c.iirDen) : (firstTickRegs c p).det =
    decide (p.s.toNat * (c.iirDen - c.iirNum) / c.iirDen > c.threshMult * c.minThreshold) := by
  rw [(firstTickRegs_fullyTicked c p).det, Regs.reset, detects_iirBlend_rollingAverage List.length_replicate _ hnum,
    histSum_replicate_zero, Nat.zero_div, Nat.zero_mul, Nat.zero_add, Nat.max_zero]

/-- `IDLY` is 0 after reset, so the first TICK pushes (R118). -/
theorem firstTickRegs_dsr :
    (firstTickRegs c p).dsr = (BitVec.ofBool (firstTickRegs c p).det).setWidth 8 := by
  rw [← pushBit_zero]
  exact (firstTickRegs_fullyTicked c p).dsr.trans (if_pos (dec32_zero _ _))

theorem firstTickRegs_idly : (firstTickRegs c p).idly = ⟨duration c.detectionInterDelay, p.now⟩ := by
  rw [(firstTickRegs_fullyTicked c p).idly]
  exact congrArg (Countdown.mk · p.now) (if_pos (dec32_zero _ _))

theorem firstTickRegs_dsr_ne_0xFF : (firstTickRegs c p).dsr ≠ 0xFF#8 := by
  rw [firstTickRegs_dsr]
  exact setWidth_ofBool_ne_0xFF _

theorem firstTickRegs_qual : (firstTickRegs c p).qual = false := by
  rw [Bool.eq_false_iff, Ne, Regs.qual_iff]
  exact firstTickRegs_dsr_ne_0xFF c p

/-- `BLK` is 0 and the LED off after reset, so the blink starts a heartbeat pulse (R105, R162). -/
theorem firstTickRegs_led : (firstTickRegs c p).led = true := by
  rw [firstTickRegs, fullTickRegs, tickPhases_led_fan_off c p _ rfl (.inl rfl)]
  exact if_pos (dec32_zero _ _)

theorem firstTickRegs_blk : (firstTickRegs c p).blk = ⟨duration c.blinkOnTime, p.now⟩ := by
  rw [firstTickRegs, fullTickRegs, tickPhases_blk_fan_off c p _ rfl, blinkTick_turns_on _ _ (dec32_zero _ _) rfl]

/-- With `QUAL` 0, the fan off and no delay running, only the button's guard can hold (R122 to R125). -/
theorem firstTickRegs_next : (firstTickRegs c p).next = if p.m then .activate else .idle := by
  have ht := firstTickRegs_idleTicked c p
  have hstill : ¬ (firstTickRegs c p).MotionQualified := fun ⟨hdsr, _⟩ => firstTickRegs_dsr_ne_0xFF c p hdsr
  have hgo : ¬ (firstTickRegs c p).RunStops p.m := by
    rw [Regs.RunStops, ht.fan]
    exact fun ⟨hfan, _⟩ => Bool.false_ne_true hfan
  rw [ht.next, if_neg hstill, if_neg hgo]
  simp [Regs.reset]

end

/-- Settles O37: register by register, the full tick of the reset registers. -/
theorem firstTickAfterReset : Obligations.FirstTickAfterReset := by
  unfold Obligations.FirstTickAfterReset
  intro c p sp hv hsp
  subst hsp
  obtain ⟨_, _, _, _, _, _, _, hnum, _⟩ := c.valid_bounds hv
  have ht := firstTickRegs_fullyTicked c p
  exact ⟨_, exec_tick_reset c p, ht.state, ht.hidx, firstTickRegs_hist c p, firstTickRegs_det c p hnum,
    firstTickRegs_dsr c p, firstTickRegs_idly c p, firstTickRegs_led c p, firstTickRegs_blk c p,
    firstTickRegs_qual c p, firstTickRegs_next c p⟩

end Sys2Proof.Machine
end

section
/-! Two hazards of 70_reset_and_hazards.md: a delay whose expiry is lost to a detection (R169 (a)), and a clock that
moves backwards (R176). -/

namespace Sys2Proof.Machine

/-! ## A detection in the tick of the expiry -/

/-- A full tick with no push due keeps `DSR` (R118). -/
theorem fullTickRegs_dsr_of_no_push (c : Params) {p : Ports} {r : Regs}
    (hgo : dec32 r.idly.rem r.idly.ref p.now ≠ 0#32) : (fullTickRegs c p r).dsr = r.dsr :=
  (fullTickRegs_fullyTicked c p r).dsr.trans (if_neg hgo)

/-- Settles O39: the Idle tick latches Detected, whose guard comes before the expiry's; the tick after it is Detected's
with the fan off. -/
theorem detectionSupersedesExpiry : Obligations.DetectionSupersedesExpiry := by
  unfold Obligations.DetectionSupersedesExpiry
  intro s p2 hruns hn hf hdsr hidly hsdet hbmi _ hover
  have h1 := fullTickRegs_idleTicked s.cfg s.ports hn
  have hmotion : (fullTickRegs s.cfg s.ports s.regs).MotionQualified :=
    ⟨(fullTickRegs_dsr_of_no_push s.cfg hidly).trans hdsr, (congrArg Countdown.rem h1.sdet).trans hsdet,
      (congrArg Countdown.rem h1.bmi).trans hbmi⟩
  have hnext := h1.next.trans (if_pos hmotion)
  have hruns2 : (fullTickRegs s.cfg s.ports s.regs).TickRuns p2.now :=
    Regs.tickRuns_of_expired (fullTickRegs_wait_rem_of_armsNoWait _ _ (.inl hn)) _
  have h2 := fullTickRegs_delayStarted s.cfg p2 hnext (h1.fan.trans hf)
  exact ⟨_, _, exec_tick_full hruns, hnext, (congrArg Countdown.rem h1.trem).trans hover,
    exec_tick_full (s := { s with regs := fullTickRegs s.cfg s.ports s.regs, ports := p2 }) hruns2, h2.next, h2.fan,
    h2.trem⟩

/-! ## A clock that moves backwards -/

/-- A clock `d` before the reference reads as an elapsed time of 2^32 - d (R176). -/
theorem wsub32_backward_toNat (ref : Word) {d : Nat} (hpos : 0 < d) (hlt : d < 2 ^ 32) :
    (wsub32 (ref - BitVec.ofNat 32 d) ref).toNat = 2 ^ 32 - d := by
  rw [wsub32, sub_sub_cancel_left, BitVec.toNat_neg, BitVec.toNat_ofNat, Nat.mod_eq_of_lt hlt]
  exact Nat.mod_eq_of_lt (by omega)

/-- Settles O17: the elapsed time the clock seems to show reaches the countdown's value. -/
theorem backwardClockExpiresCountdown : Obligations.BackwardClockExpiresCountdown := by
  unfold Obligations.BackwardClockExpiresCountdown
  intro c d hpos hlt hle
  have hexpired : dec32 c.rem c.ref (c.ref - BitVec.ofNat 32 d) = 0#32 := by
    rw [dec32_eq_zero_iff, wsub32_backward_toNat c.ref hpos hlt]
    exact hle
  rw [Countdown.advance, hexpired]

end Sys2Proof.Machine
end

section
/-! The decoder and the encoder as inverses on the nine words of the opcode map (30_encoding.md R66, R68, R79). -/

namespace Sys2Proof

/-- A row of 8 bits decodes as its word does (R65). -/
theorem decodeTableWord_toNat (w : Byte) : decodeTableWord 8 w.toNat = (decode w).toOption := by
  rw [decodeTableWord, if_pos le_rfl, tableWord_toNat]

/-- Settles O2: encoding is a right inverse of the decoder, and a word that decodes is its command's own. -/
theorem decodeEncodeAgree : Obligations.DecodeEncodeAgree := by
  unfold Obligations.DecodeEncodeAgree
  intro i _
  have htable : decodeTableWord 8 (encode i).toNat = some i := by
    rw [decodeTableWord_toNat, decode_encode, Except.toOption]
  exact ⟨decode_encode i, htable, fun _ h => (Machine.encode_of_decode_ok h).symm⟩

/-- Settles O3: the nine words are the encodings of the commands, and the two reserved words fall under the last two
clauses of `exactlyNineWordsLegal`. -/
theorem opcodeMapWords : Obligations.OpcodeMapWords := by
  unfold Obligations.OpcodeMapWords
  obtain ⟨_, reservedBits, reservedOpcode⟩ := exactlyNineWordsLegal
  exact ⟨decode_encode .nop, decode_encode .wsub, decode_encode .tdec, decode_encode .qsample, decode_encode .dpush,
    decode_encode .dpushd, decode_encode .blink, decode_encode .tick, decode_encode .clr,
    reservedOpcode _ (by decide) (by decide), reservedBits _ (by decide)⟩

end Sys2Proof
end
